-- ==== Sys2Proof/Word.lean ====
section
/-! DEFINITION. The word types of the DCUE and nothing else.

Bit 0 is the least significant bit (00_scope.md R8).  A host register is 32 bits (10_state.md R20), an operand register
or a stack entry 16 bits (R25, R36), a tile or a bus byte 8 bits (R32), a slave address 7 bits (00_scope.md R6). -/

namespace Sys2Proof

/-- A host register value or a command word, 32 bits (10_state.md R20, 30_encoding.md R100). -/
abbrev Word := BitVec 32

/-- An operand register or a stack entry, 16 bits (10_state.md R25, R36). -/
abbrev Half := BitVec 16

/-- A framebuffer tile or a byte sent on the bus, 8 bits (10_state.md R32, 20_memory.md R72). -/
abbrev Byte := BitVec 8

/-- A bus slave address, 7 bits (`ADDR_BITS`, 00_scope.md R6). -/
abbrev BusAddr := BitVec 7

end Sys2Proof
end

