-- ==== Sys2Proof/Syntax.lean ====
section
/-! DEFINITION. The commands of the DCUE as syntax: one constructor per row of spec/opcode_table.json (30_encoding.md
R106), and a command word split into its fields (R100).

A command's other operands are in CFG and ARG0..ARG3 (R105), which are state, so a constructor carries only the operands
that stand in the command word itself: V and M. -/

namespace Sys2Proof

/-- The 21 commands of the opcode map (30_encoding.md R106). -/
inductive Instr where
  /-- FB_CREATE, OP 0x01 (40_framebuffer.md R133). -/
  | fbCreate
  /-- FB_CLEAR, OP 0x02 (R134). -/
  | fbClear
  /-- FB_SET_PIXEL, OP 0x03, `v` the pixel value (R135). -/
  | fbSetPixel (v : Bool)
  /-- FB_GET_PIXEL, OP 0x04 (R136). -/
  | fbGetPixel
  /-- FB_DESTROY, OP 0x05 (R137). -/
  | fbDestroy
  /-- DISP_INIT, OP 0x10 (41_display.md R164). -/
  | dispInit
  /-- DISP_ON, OP 0x11, `v` = on (R166). -/
  | dispOn (v : Bool)
  /-- DISP_UPDATE, OP 0x12 (R167). -/
  | dispUpdate
  /-- DISP_UPDATE_ALL, OP 0x13 (R169). -/
  | dispUpdateAll
  /-- DISP_UPDATE_DIFF, OP 0x14 (R170). -/
  | dispUpdateDiff
  /-- DISP_SET_COL_RANGE, OP 0x15 (R172). -/
  | dispSetColRange
  /-- DISP_SET_PAGE_RANGE, OP 0x16 (R173). -/
  | dispSetPageRange
  /-- DRAW_LINE, OP 0x20, `v` the pixel value (42_draw.md R202). -/
  | drawLine (v : Bool)
  /-- DRAW_RECT, OP 0x21, `v` the pixel value (R203). -/
  | drawRect (v : Bool)
  /-- DRAW_CIRCLE, OP 0x22, `v` the pixel value (R205). -/
  | drawCircle (v : Bool)
  /-- DRAW_ELLIPSE_RECT, OP 0x23, `v` the pixel value (R207). -/
  | drawEllipseRect (v : Bool)
  /-- DRAW_FILL, OP 0x24, `v` = new_value, `m` = match_value (43_fill_stack.md R232). -/
  | drawFill (v m : Bool)
  /-- STK_ALLOC, OP 0x30 (R238). -/
  | stkAlloc
  /-- STK_PUSH, OP 0x31 (R239). -/
  | stkPush
  /-- STK_POP, OP 0x32 (R240). -/
  | stkPop
  /-- STK_DEALLOC, OP 0x33 (R241). -/
  | stkDealloc
deriving DecidableEq, Repr

/-- A command word split into its four fields, before it is known whether it encodes a command (30_encoding.md R100). -/
structure RawCommand where
  /-- OP, bits 7:0. -/
  op : BitVec 8
  /-- V, bit 8. -/
  v : Bool
  /-- M, bit 9. -/
  m : Bool
  /-- RES, bits 31:10. -/
  res : BitVec 22
deriving DecidableEq, Repr

/-- The fields of a command word (30_encoding.md R100). -/
def RawCommand.ofWord (w : Word) : RawCommand where
  op := w.extractLsb' 0 8
  v := w.getLsbD 8
  m := w.getLsbD 9
  res := w.extractLsb' 10 22

end Sys2Proof
end

