-- ==== Sys2Proof/WellFormed.lean ====
section
/-! DEFINITION. When a command word is well formed: the four requirements of 30_encoding.md R101-R104 on its fields.

A term of `Instr` needs no check of its own: its operands are Booleans and every value of them is legal (R102, R103).
What can be ill formed is a word, and each requirement of the spec on it is one check here.  `decode` does not call
these checks (it follows the match and mask table of R106); a statement says the two agree. -/

namespace Sys2Proof

namespace RawCommand

/-- RES must be 0 in every command word (30_encoding.md R104). -/
def resZero (r : RawCommand) : Bool := r.res == 0

/-- OP is one of the opcodes of the opcode map; the others are reserved (R106, R108). -/
def opAssigned (r : RawCommand) : Bool :=
  let op := r.op.toNat
  (0x01 ≤ op && op ≤ 0x05) || (0x10 ≤ op && op ≤ 0x16) || (0x20 ≤ op && op ≤ 0x24) || (0x30 ≤ op && op ≤ 0x33)

/-- The commands that read V: FB_SET_PIXEL, DISP_ON, the four rasterizers and DRAW_FILL (R102). -/
def readsV (r : RawCommand) : Bool :=
  let op := r.op.toNat
  op == 0x03 || op == 0x11 || (0x20 ≤ op && op ≤ 0x24)

/-- The only command that reads M is DRAW_FILL (R103). -/
def readsM (r : RawCommand) : Bool := r.op == 0x24

/-- Commands that do not read V require V = 0 (R102). -/
def vAllowed (r : RawCommand) : Bool := !r.v || r.readsV

/-- Commands that do not read M require M = 0 (R103). -/
def mAllowed (r : RawCommand) : Bool := !r.m || r.readsM

/-- All four requirements: the word encodes a command (R107, R108). -/
def wf (r : RawCommand) : Bool := r.opAssigned && r.resZero && r.vAllowed && r.mAllowed

end RawCommand

end Sys2Proof
end

