-- ==== Sys2Proof/Decode.lean ====
section
/-! DEFINITION. The decoder of command words, from the match and mask table of 30_encoding.md R106, and the encoder,
from the same table.  Every command is one 32-bit word (R109); its operands outside V and M are registers. -/

namespace Sys2Proof

/-- One row of the opcode map: a word `w` encodes the row's command when `(w & mask) = match`; `make` builds the command
from the word's V and M bits. -/
structure OpcodeRow where
  code : Word
  mask : Word
  make : Bool → Bool → Instr

/-- The opcode map, row for row (30_encoding.md R106). -/
def opcodeTable : List OpcodeRow :=
  [ ⟨0x00000001#32, 0xFFFFFFFF#32, fun _ _ => .fbCreate⟩,
    ⟨0x00000002#32, 0xFFFFFFFF#32, fun _ _ => .fbClear⟩,
    ⟨0x00000003#32, 0xFFFFFEFF#32, fun v _ => .fbSetPixel v⟩,
    ⟨0x00000004#32, 0xFFFFFFFF#32, fun _ _ => .fbGetPixel⟩,
    ⟨0x00000005#32, 0xFFFFFFFF#32, fun _ _ => .fbDestroy⟩,
    ⟨0x00000010#32, 0xFFFFFFFF#32, fun _ _ => .dispInit⟩,
    ⟨0x00000011#32, 0xFFFFFEFF#32, fun v _ => .dispOn v⟩,
    ⟨0x00000012#32, 0xFFFFFFFF#32, fun _ _ => .dispUpdate⟩,
    ⟨0x00000013#32, 0xFFFFFFFF#32, fun _ _ => .dispUpdateAll⟩,
    ⟨0x00000014#32, 0xFFFFFFFF#32, fun _ _ => .dispUpdateDiff⟩,
    ⟨0x00000015#32, 0xFFFFFFFF#32, fun _ _ => .dispSetColRange⟩,
    ⟨0x00000016#32, 0xFFFFFFFF#32, fun _ _ => .dispSetPageRange⟩,
    ⟨0x00000020#32, 0xFFFFFEFF#32, fun v _ => .drawLine v⟩,
    ⟨0x00000021#32, 0xFFFFFEFF#32, fun v _ => .drawRect v⟩,
    ⟨0x00000022#32, 0xFFFFFEFF#32, fun v _ => .drawCircle v⟩,
    ⟨0x00000023#32, 0xFFFFFEFF#32, fun v _ => .drawEllipseRect v⟩,
    ⟨0x00000024#32, 0xFFFFFCFF#32, fun v m => .drawFill v m⟩,
    ⟨0x00000030#32, 0xFFFFFFFF#32, fun _ _ => .stkAlloc⟩,
    ⟨0x00000031#32, 0xFFFFFFFF#32, fun _ _ => .stkPush⟩,
    ⟨0x00000032#32, 0xFFFFFFFF#32, fun _ _ => .stkPop⟩,
    ⟨0x00000033#32, 0xFFFFFFFF#32, fun _ _ => .stkDealloc⟩ ]

/-- Why a word encodes no command (30_encoding.md R107, R108).  Every one of them has the same effect on the machine:
the command finishes INVALID_ARGUMENT. -/
inductive DecodeError where
  /-- OP is a reserved value (R108). -/
  | reservedOpcode
  /-- RES is not 0 (R104). -/
  | reservedBitsSet
  /-- V is 1 and the command does not read V (R102). -/
  | valueBitNotRead
  /-- M is 1 and the command does not read M (R103). -/
  | matchBitNotRead
  /-- Fewer than the four bytes of a command word were given (R109); a CMD write always gives four. -/
  | truncated
deriving DecidableEq, Repr

/-- The name of the first requirement an illegal word breaks, in the order of the checks of WellFormed.lean. -/
def RawCommand.whyIllegal (r : RawCommand) : DecodeError :=
  if !r.opAssigned then .reservedOpcode
  else if !r.resZero then .reservedBitsSet
  else if !r.vAllowed then .valueBitNotRead
  else .matchBitNotRead

/-- Does the word match the row: `(w & mask) = match` (R106). -/
def OpcodeRow.accepts (r : OpcodeRow) (w : Word) : Bool := w &&& r.mask == r.code

/-- Decode (30_encoding.md R107): the row that matches, or a rejection by name.  Total on every word. -/
def decode (w : Word) : Except DecodeError Instr :=
  match opcodeTable.find? (·.accepts w) with
  | some r => .ok (r.make (w.getLsbD 8) (w.getLsbD 9))
  | none => .error (RawCommand.ofWord w).whyIllegal

/-- A word from its four byte lanes, lane 0 first: lane k carries bits 8k+7 : 8k (little-endian, 20_memory.md R64). -/
def wordOfLanes (b0 b1 b2 b3 : Byte) : Word := b3 ++ (b2 ++ (b1 ++ b0))

/-- Byte lane `k` of a word (20_memory.md R64). -/
def byteLane (w : Word) (k : Nat) : Byte := w.extractLsb' (8 * k) 8

/-- The decoder on a list of bytes: the command in the first four byte lanes, and the bytes that follow it. -/
def decodeBytes : List Byte → Except DecodeError (Instr × List Byte)
  | b0 :: b1 :: b2 :: b3 :: rest =>
    match decode (wordOfLanes b0 b1 b2 b3) with
    | .ok i => .ok (i, rest)
    | .error e => .error e
  | _ => .error .truncated

/-- A word of `op` with the V and M bits given and RES = 0 (30_encoding.md R100). -/
def commandWord (op : Byte) (v m : Bool) : Word :=
  (0#22 ++ (BitVec.ofBool m ++ (BitVec.ofBool v ++ op)))

/-- The command word of each command (30_encoding.md R106). -/
def encode : Instr → Word
  | .fbCreate => commandWord 0x01#8 false false
  | .fbClear => commandWord 0x02#8 false false
  | .fbSetPixel v => commandWord 0x03#8 v false
  | .fbGetPixel => commandWord 0x04#8 false false
  | .fbDestroy => commandWord 0x05#8 false false
  | .dispInit => commandWord 0x10#8 false false
  | .dispOn v => commandWord 0x11#8 v false
  | .dispUpdate => commandWord 0x12#8 false false
  | .dispUpdateAll => commandWord 0x13#8 false false
  | .dispUpdateDiff => commandWord 0x14#8 false false
  | .dispSetColRange => commandWord 0x15#8 false false
  | .dispSetPageRange => commandWord 0x16#8 false false
  | .drawLine v => commandWord 0x20#8 v false
  | .drawRect v => commandWord 0x21#8 v false
  | .drawCircle v => commandWord 0x22#8 v false
  | .drawEllipseRect v => commandWord 0x23#8 v false
  | .drawFill v m => commandWord 0x24#8 v m
  | .stkAlloc => commandWord 0x30#8 false false
  | .stkPush => commandWord 0x31#8 false false
  | .stkPop => commandWord 0x32#8 false false
  | .stkDealloc => commandWord 0x33#8 false false

/-- The command word of an instruction whose low `nbits` bits are those of `w` and whose other bits are 0. -/
def tableWord (nbits w : Nat) : Word := BitVec.ofNat 32 (w % 2 ^ nbits)

/-- The instruction the decoder reads from an instruction numbered as spec/opcode_table.json numbers it: laid out in its
byte lanes and read back by `decodeBytes`. -/
def decodeTableWord (nbits w : Nat) : Option Instr :=
  let x := tableWord nbits w
  match decodeBytes [byteLane x 0, byteLane x 1, byteLane x 2, byteLane x 3] with
  | .ok (i, _) => some i
  | .error _ => none

end Sys2Proof
end

