-- ==== Sys2Proof/Config.lean ====
section
/-! DEFINITION. The status codes and bus events, the parameters of the DCUE (00_scope.md R6), and the free values: what
the spec leaves open is an opaque constant without a body, so that no proof can see its value.

The status and event types stand here because the transport's open answers are stated in terms of them. -/

namespace Sys2Proof

/-- What a bus write returns: OK or one status of the `BUS_*` family (20_memory.md R71). -/
inductive BusStatus where
  | ok
  | busy
  | arbitrationLost
  | addressNack
  | timeout
  | dataOverrun
deriving DecidableEq, Repr, Inhabited

/-- The status codes of STATUS.CODE (60_exceptions.md R260). -/
inductive Status where
  | ok
  | invalidArgument
  | outOfBounds
  | outOfMemory
  | notFound
  | busBusy
  | busArbitrationLost
  | busAddressNack
  | busTimeout
  | busDataOverrun
deriving DecidableEq, Repr, Inhabited

/-- A bus event (20_memory.md R72): a write with the status it was answered with, or a stop condition. -/
inductive BusEvent where
  | write (addr : BusAddr) (bytes : List Byte) (held : Bool) (status : BusStatus)
  | stop
deriving DecidableEq, Repr

/-- The parameters the model takes as arguments (00_scope.md R6, R7, 20_memory.md R60).  They are a field of the state that no step writes:
`exec` has no other argument they could come in by. -/
structure Params where
  /-- `TYPE_CMD`, the type byte before a command byte (OPEN). -/
  typeCmd : Byte
  /-- `TYPE_DATA`, the type byte before a data byte (OPEN, distinct from `TYPE_CMD`). -/
  typeData : Byte
  /-- `FB_MAX_TILES` (OPEN, 1024 to 16384). -/
  fbMaxTiles : Nat
  /-- `STACK_MAX_ENTRIES` (OPEN, at least 1). -/
  stackMaxEntries : Nat
  /-- `FILL_STACK_INIT_CAPACITY` (OPEN, at least 1). -/
  fillStackInitCapacity : Nat
  /-- `THRESH_32`. -/
  thresh32 : Nat
  /-- `THRESH_64`. -/
  thresh64 : Nat
  /-- `DCUE_BASE`, the address of the DCUE's host space, the platform's choice (OPEN, 20_memory.md R60). -/
  dcueBase : Nat
deriving DecidableEq, Repr

/-- The constraints 00_scope.md R6 and R7 put on the parameters.  DEDUCED (log entry 10): STACK_MAX_ENTRIES fits the 32
bits 10_state.md R36 gives STK.cap. -/
abbrev Params.wf (p : Params) : Prop :=
  p.typeData ≠ p.typeCmd ∧ 1024 ≤ p.fbMaxTiles ∧ p.fbMaxTiles ≤ 16384 ∧ 1 ≤ p.stackMaxEntries ∧
    p.stackMaxEntries < 2 ^ 32 ∧ 1 ≤ p.fillStackInitCapacity

/-- `BITS_PER_TILE` (00_scope.md R6). -/
def bitsPerTile : Nat := 8

/-- `PANEL_WIDTH` (00_scope.md R6). -/
def panelWidth : Nat := 128

/-- `PANEL_HEIGHT(geom)`: 32 for geom = 0, 64 for geom = 1 (00_scope.md R6). -/
def panelHeight (geom : Bool) : Nat := if geom then 64 else 32

/-- `PANEL_PAGES(geom)` = `PANEL_HEIGHT(geom) / 8` (00_scope.md R6). -/
def panelPages (geom : Bool) : Nat := panelHeight geom / bitsPerTile

/-- `MAX_DIM`, the largest framebuffer width or height (00_scope.md R6). -/
def maxDim : Nat := 32767

/-- `THRESH(geom)` (00_scope.md R6). -/
def Params.thresh (p : Params) (geom : Bool) : Nat := if geom then p.thresh64 else p.thresh32

namespace Config

/-- OPEN: the value of `TYPE_CMD` (log entry 3). -/
opaque typeCmd : Byte

/-- OPEN: by how much less one `TYPE_DATA` lies above `TYPE_CMD`, counting round the 256 bytes: every distinct value. -/
opaque typeDataGap : Fin 255

/-- OPEN: fixes `FB_MAX_TILES` within its bounds (log entry 3). -/
opaque fbMaxTilesSeed : Nat

/-- OPEN: fixes `STACK_MAX_ENTRIES` within its bounds (log entries 3 and 10). -/
opaque stackMaxEntriesSeed : Nat

/-- OPEN: `FILL_STACK_INIT_CAPACITY` less one (log entry 3). -/
opaque fillStackInitSeed : Nat

/-- OPEN: the value of `DCUE_BASE`, any address (20_memory.md R60, log entry 14). -/
opaque dcueBase : Nat

/-- The parameters of this machine: the OPEN ones range over exactly the values 00_scope.md R6 and R7 allow; the
thresholds have the values the spec states. -/
def params : Params where
  typeCmd := typeCmd
  typeData := typeCmd + BitVec.ofNat 8 (typeDataGap.val + 1)
  fbMaxTiles := fbMaxTilesSeed % 15361 + 1024
  stackMaxEntries := stackMaxEntriesSeed % (2 ^ 32 - 1) + 1
  fillStackInitCapacity := fillStackInitSeed + 1
  thresh32 := 147
  thresh64 := 294
  dcueBase := dcueBase

/-- FREE: the status the transport answers a bus write with, past the answers listed in the state: `BusOracle` of
20_memory.md R70, a function of the history, the address, the bytes and the held mode (R71, log entry 4). -/
opaque busOracle : List BusEvent → BusAddr → List Byte → Bool → BusStatus

/-- FREE: what cell `i` of a RAM of `w`-bit cells holds from draw `epoch` on, until it is written
(40_framebuffer.md R133, 93_implementation_defined.md U2-U4, log entry 5). -/
opaque freeCell (w epoch i : Nat) : BitVec w

/-- FREE: what a host read other than of STATUS returns while BUSY = 1 (60_exceptions.md R274, log entry 9). -/
opaque freeRead : Nat → Word

end Config

end Sys2Proof
end

