-- ==== Sys2Proof/Machine/State.lean ====
section
/-! DEFINITION. The state of the DCUE as plain data: everything 10_state.md gives the machine, the parameters
00_scope.md R6 hands the model, and the inputs the outside world has in store for it.  INVENTORY.md lists every field
with its rule and its reset value. -/

namespace Sys2Proof.Machine

open Sys2Proof

/-- Why the machine stops with a fault: never.  "Every error condition the document names is a status (rule R260), never
a fault: a model's DCUE step never enters a faulted state" (60_exceptions.md R265), so the type has no constructor. -/
inductive Fault where
deriving DecidableEq, Repr

/-- Why a step is refused. -/
inductive Refusal where
  /-- Raised by `exec` for a command without a meaning.  Safe: the machine stops where the hardware goes on. -/
  | notModelled (mnemonic : String)
  /-- Raised by `hostStep` for a host access that is not an aligned 32-bit access: "the run is refused, never given a
  value" (20_memory.md R60, 60_exceptions.md R265).  Safe: nothing is claimed of such a run. -/
  | hostAccessNotAlignedWord
  /-- Raised by `hostStep` for a reset asserted while BUSY = 1: it "has no move in the model" (70_reset_and_hazards.md
  R290, 93_implementation_defined.md U8).  Safe: nothing is claimed of such a run. -/
  | resetWhileBusy
deriving DecidableEq, Repr

/-- What an unlisted cell of a RAM reads as: 0, or the free value of one draw. -/
inductive Fill where
  | zero
  | free (epoch : Nat)
deriving DecidableEq, Repr

/-- A RAM of `w`-bit cells: the listed cells, sorted by address and without repeats, none equal to what an unlisted cell
reads as (`Ram.wf` in Ops.lean), and what an unlisted cell reads as.  For `w = 8` the cells are a `List Host.Cell`. -/
structure Ram (w : Nat) where
  cells : List (Nat × BitVec w)
  fill : Fill
deriving DecidableEq, Repr

/-- The display configuration fields, as CFG holds them (10_state.md R24) and as DISP latches them (R30). -/
structure DispConf where
  /-- ADDR: the 7-bit bus slave address of the controller. -/
  addr : BusAddr
  /-- GEOM: 0 = 32 rows, 1 = 64 rows. -/
  geom : Bool
  /-- CPSRC: charge-pump source, 0 = external, 1 = internal. -/
  cpsrc : Bool
  /-- FLIPH: horizontal flip (segment remap) at init. -/
  fliph : Bool
  /-- FLIPV: vertical flip (COM output remap) at init. -/
  flipv : Bool
deriving DecidableEq, Repr

/-- The display configuration record DISP (10_state.md R30). -/
structure Disp where
  valid : Bool
  conf : DispConf
deriving DecidableEq, Repr

/-- The framebuffer record FB (10_state.md R31).  The numbers are at most 16384 or 32767 (R43), so they fit the 16 and
15 bits R31 gives them. -/
structure Fb where
  alloc : Bool
  columns : Nat
  height : Nat
  pages : Nat
  ntiles : Nat
  count : Nat
deriving DecidableEq, Repr

/-- The FB record while no framebuffer exists: "while `FB.alloc = 0` all other fields are 0" (10_state.md R31). -/
def Fb.none : Fb := ⟨false, 0, 0, 0, 0, 0⟩

/-- A stack record, STK or FSTK (10_state.md R36, R37).  `entries` lists the entries below `count` from the top of the
stack down, so `S.count` is its length; no rule reads an entry at or above `count` (log entry 8). -/
structure Stack where
  alloc : Bool
  cap : Nat
  entries : List Half
deriving DecidableEq, Repr

/-- `S.count` (10_state.md R36). -/
def Stack.count (S : Stack) : Nat := S.entries.length

/-- The stack record while it is not allocated: `cap = count = 0` (10_state.md R36). -/
def Stack.none : Stack := ⟨false, 0, []⟩

/-- What the host does at its port: one read or write of `width` bytes at the byte offset `off` of the DCUE's host space
(20_memory.md R60; the space is 0x30000 bytes, R61; `memRead` and `memWrite` of HostPort.lean make them from addresses), the `WAIT` loop of 30_encoding.md R112, which reads STATUS until bit 31 is 0, or the reset input
(70_reset_and_hazards.md R290).  A `wait` carries how many of its polls may still come before the engine's step (log entry
19). -/
inductive HostAction where
  | read (off : Fin 0x30000) (width : Nat)
  | write (off : Fin 0x30000) (width : Nat) (value : Word)
  | wait (busyPolls : Nat)
  | reset
deriving DecidableEq, Repr

/-- One action of the host and when it comes: `early` means the host does not wait for BUSY = 0 before it
(60_exceptions.md R274, log entry 1). -/
structure HostEvent where
  action : HostAction
  early : Bool
deriving DecidableEq, Repr

/-- A value the host has read: the offset and the word returned. -/
structure HostRead where
  off : Fin 0x30000
  value : Word
deriving DecidableEq, Repr

/-- The whole state. -/
structure State where
  /-- The machine's parameters (00_scope.md R6); no step writes them. -/
  params : Params
  /-- CMD, the last accepted command word (10_state.md R21). -/
  cmd : Word
  /-- STATUS.BUSY (R22). -/
  busy : Bool
  /-- STATUS.CODE (R22, 60_exceptions.md R260). -/
  code : Status
  /-- RESULT (R23). -/
  result : Word
  /-- CFG (R24). -/
  cfg : DispConf
  /-- ARG0 bits 15:0 (R25). -/
  arg0 : Half
  /-- ARG1 bits 15:0 (R25). -/
  arg1 : Half
  /-- ARG2 bits 15:0 (R25). -/
  arg2 : Half
  /-- ARG3 bits 15:0 (R25). -/
  arg3 : Half
  /-- DISP (R30). -/
  disp : Disp
  /-- FB (R31). -/
  fb : Fb
  /-- The tile RAM (R32). -/
  tiles : Ram 8
  /-- The dirty RAM (R33). -/
  dirty : Ram 1
  /-- STK, the host stack (R36). -/
  stk : Stack
  /-- FSTK, the fill engine's stack (R37). -/
  fstk : Stack
  /-- BUSMODE: the next write ends with a stop condition (R38). -/
  busMode : Bool
  /-- The bus event log, newest event first (R39); `State.busLog` is the log in order. -/
  busLogRev : List BusEvent
  /-- INPUT: the statuses the transport will answer the next bus writes with (20_memory.md R71, log entry 4). -/
  busAnswers : List BusStatus
  /-- INPUT: what the host will do next, in order (60_exceptions.md R275, log entry 1). -/
  pending : List HostEvent
  /-- OUTPUT: what the host has read, newest first (30_encoding.md R112, log entry 9). -/
  hostReadsRev : List HostRead
  /-- The model's own: how many free values have been drawn (log entry 5). -/
  draws : Nat
deriving DecidableEq, Repr

/-- The bus event log in the order of the events (20_memory.md R72). -/
def State.busLog (s : State) : List BusEvent := s.busLogRev.reverse

/-- What the host has read, in order. -/
def State.hostReads (s : State) : List HostRead := s.hostReadsRev.reverse

/-- The state right after reset (70_reset_and_hazards.md R291).  The tile and dirty RAM are unspecified: nothing is listed
and an unlisted cell is the free value of draw 0.  The inputs are empty: nothing is pending (log entries 1, 4 and 5). -/
def State.reset : State where
  params := Config.params
  cmd := 0
  busy := false
  code := .ok
  result := 0
  cfg := ⟨0, false, false, false, false⟩
  arg0 := 0
  arg1 := 0
  arg2 := 0
  arg3 := 0
  disp := ⟨false, ⟨0, false, false, false, false⟩⟩
  fb := Fb.none
  tiles := ⟨[], .free 0⟩
  dirty := ⟨[], .free 0⟩
  stk := Stack.none
  fstk := Stack.none
  busMode := true
  busLogRev := []
  busAnswers := []
  pending := []
  hostReadsRev := []
  draws := 1

end Sys2Proof.Machine
end

