-- ==== Sys2Proof/Machine/Flags.lean ====
section
/-! DEFINITION. STATUS, the only flag register of the DCUE (10_state.md R22), and the numeric status codes
(60_exceptions.md R260). -/

namespace Sys2Proof.Machine

open Sys2Proof

/-- The numeric value of a status code (60_exceptions.md R260). -/
def statusByte : Status → Byte
  | .ok => 0x00#8
  | .invalidArgument => 0x01#8
  | .outOfBounds => 0x02#8
  | .outOfMemory => 0x03#8
  | .notFound => 0x04#8
  | .busBusy => 0x10#8
  | .busArbitrationLost => 0x11#8
  | .busAddressNack => 0x12#8
  | .busTimeout => 0x13#8
  | .busDataOverrun => 0x14#8

/-- The status code of what a bus write returned: `BUS_*` codes are surfaced verbatim (60_exceptions.md R260). -/
def busCode : BusStatus → Status
  | .ok => .ok
  | .busy => .busBusy
  | .arbitrationLost => .busArbitrationLost
  | .addressNack => .busAddressNack
  | .timeout => .busTimeout
  | .dataOverrun => .busDataOverrun

/-- STATUS as the host reads it: BUSY in bit 31, bits 30:8 read 0, CODE in bits 7:0 (10_state.md R22). -/
def State.statusWord (s : State) : Word :=
  BitVec.ofBool s.busy ++ (0#23 ++ statusByte s.code)

end Sys2Proof.Machine
end

