-- ==== Sys2Proof/Machine/Operands.lean ====
section
/-! DEFINITION. Operand assembly (30_encoding.md R105) and the CFG layout (10_state.md R24). -/

namespace Sys2Proof.Machine

open Sys2Proof

/-- The stored bits of ARG`n` (10_state.md R25). -/
def State.arg (s : State) : Fin 4 → Half
  | 0 => s.arg0
  | 1 => s.arg1
  | 2 => s.arg2
  | 3 => s.arg3

/-- `s16(n)`: ARG`n` read as a signed number, -32768 to 32767 (30_encoding.md R105). -/
def State.s16 (s : State) (n : Fin 4) : Int := (s.arg n).toInt

/-- `u16(n)`: ARG`n` read as an unsigned number, 0 to 65535 (30_encoding.md R105). -/
def State.u16 (s : State) (n : Fin 4) : Nat := (s.arg n).toNat

/-- The configuration a host write of `v` to CFG stores: bits 11:8 and 6:0 (10_state.md R24). -/
def DispConf.ofWord (v : Word) : DispConf where
  addr := v.extractLsb' 0 7
  geom := v.getLsbD 8
  cpsrc := v.getLsbD 9
  fliph := v.getLsbD 10
  flipv := v.getLsbD 11

/-- Bits 11:0 of CFG and of DISP_CFG; bit 7 reads 0 (10_state.md R24, R28). -/
def DispConf.bits (c : DispConf) : BitVec 12 :=
  BitVec.ofBool c.flipv ++ (BitVec.ofBool c.fliph ++ (BitVec.ofBool c.cpsrc ++ (BitVec.ofBool c.geom ++ (0#1 ++ c.addr))))

/-- CFG as the host reads it; bits 31:12 read 0 (10_state.md R24). -/
def DispConf.word (c : DispConf) : Word := 0#20 ++ c.bits

/-- `DISP.height` (10_state.md R30). -/
def Disp.height (d : Disp) : Nat := panelHeight d.conf.geom

/-- `DISP.pages` (10_state.md R30). -/
def Disp.pages (d : Disp) : Nat := panelPages d.conf.geom

/-- `DISP.thresh` (10_state.md R30). -/
def State.dispThresh (s : State) : Nat := s.params.thresh s.disp.conf.geom

end Sys2Proof.Machine
end

