-- ==== Sys2Proof/Machine/Ops.lean ====
section
/-! DEFINITION. The named operations every command is made of: the RAMs, ending a command, the reset input, the pixel
procedures, the stack procedures, and the bus port with the held-bus wrap.

The DCUE has no traps (60_exceptions.md R267): a command fails by `finish(code)` (R262), so `State.finish` is the one
shared operation that other machines' exception entry is here, and there is nothing to return from (R268). -/

namespace Sys2Proof.Machine

open Sys2Proof

/-! ## The RAMs -/

/-- The listed value at address `i`. -/
def lookupCell {w : Nat} (i : Nat) : List (Nat × BitVec w) → Option (BitVec w)
  | [] => none
  | (a, b) :: rest => if a = i then some b else lookupCell i rest

/-- The sorted list with the value at address `i` put in place. -/
def putCell {w : Nat} (i : Nat) (v : BitVec w) : List (Nat × BitVec w) → List (Nat × BitVec w)
  | [] => [(i, v)]
  | (a, b) :: rest =>
    if i < a then (i, v) :: (a, b) :: rest
    else if i = a then (i, v) :: rest
    else (a, b) :: putCell i v rest

/-- The list without the value at address `i`. -/
def dropCell {w : Nat} (i : Nat) : List (Nat × BitVec w) → List (Nat × BitVec w)
  | [] => []
  | (a, b) :: rest => if a = i then dropCell i rest else (a, b) :: dropCell i rest

/-- What an unlisted cell reads as: 0 once the RAM has been zeroed, else the free value of the draw (log entry 5). -/
def Ram.unlisted {w : Nat} (m : Ram w) (i : Nat) : BitVec w :=
  match m.fill with
  | .zero => 0
  | .free epoch => Config.freeCell w epoch i

/-- Read cell `i`. -/
def Ram.read {w : Nat} (m : Ram w) (i : Nat) : BitVec w := (lookupCell i m.cells).getD (m.unlisted i)

/-- Write cell `i`, keeping the canonical form: a cell equal to what an unlisted one reads as is not listed. -/
def Ram.write {w : Nat} (m : Ram w) (i : Nat) (v : BitVec w) : Ram w :=
  if v = m.unlisted i then { m with cells := dropCell i m.cells } else { m with cells := putCell i v m.cells }

/-- The RAM with every cell 0. -/
def Ram.zeroed (w : Nat) : Ram w := ⟨[], .zero⟩

/-- The RAM with every cell unspecified: the free values of draw `epoch` (log entry 5). -/
def Ram.unspecified (w epoch : Nat) : Ram w := ⟨[], .free epoch⟩

/-- The RAM of single bits with cells `0 .. n-1` at 1 and the others at 0. -/
def Ram.onesBelow (n : Nat) : Ram 1 := ⟨(List.range n).map fun i => (i, 1#1), .zero⟩

/-- The canonical form: addresses strictly rising, and no listed cell equal to what an unlisted one reads as. -/
abbrev Ram.wf {w : Nat} (m : Ram w) : Prop :=
  m.cells.Pairwise (fun c d => c.1 < d.1) ∧ ∀ c ∈ m.cells, c.2 ≠ m.unlisted c.1

/-! ## Single updates of the state -/

/-- Ending a command with `finish(code)` (00_scope.md R12, 60_exceptions.md R262): CODE is written, BUSY cleared, every
other change the command made is kept. -/
def State.finish (s : State) (c : Status) : State := { s with code := c, busy := false }

/-- `reg[RESULT] <- v` (10_state.md R23). -/
def State.setResult (s : State) (v : Word) : State := { s with result := v }

/-- Write the FB record (10_state.md R31). -/
def State.setFb (s : State) (fb : Fb) : State := { s with fb := fb }

/-- `FB.count <- n` (10_state.md R31). -/
def State.setCount (s : State) (n : Nat) : State := { s with fb := { s.fb with count := n } }

/-- Replace the tile RAM (10_state.md R32). -/
def State.setTiles (s : State) (m : Ram 8) : State := { s with tiles := m }

/-- Replace the dirty RAM (10_state.md R33). -/
def State.setDirtyRam (s : State) (m : Ram 1) : State := { s with dirty := m }

/-- Write the DISP record (10_state.md R30). -/
def State.setDisp (s : State) (d : Disp) : State := { s with disp := d }

/-- Write STK (10_state.md R36). -/
def State.setStk (s : State) (S : Stack) : State := { s with stk := S }

/-- Write FSTK (10_state.md R37). -/
def State.setFstk (s : State) (S : Stack) : State := { s with fstk := S }

/-- `BUSMODE <- b` (10_state.md R38). -/
def State.setBusMode (s : State) (b : Bool) : State := { s with busMode := b }

/-- Append an event to the bus event log (20_memory.md R72). -/
def State.logEvent (s : State) (e : BusEvent) : State := { s with busLogRev := e :: s.busLogRev }

/-- The transport has given its next answer. -/
def State.dropAnswer (s : State) : State := { s with busAnswers := s.busAnswers.tail }

/-- A free value has been drawn; the next one is another (log entry 5). -/
def State.drew (s : State) : State := { s with draws := s.draws + 1 }

/-! ## Tiles and dirty bits -/

/-- `Tile(i)` (00_scope.md R10). -/
def State.tile (s : State) (i : Nat) : Byte := s.tiles.read i

/-- `Tile(i) <- b` (00_scope.md R10). -/
def State.setTile (s : State) (i : Nat) (b : Byte) : State := s.setTiles (s.tiles.write i b)

/-- `Dirty(i) = 1` (00_scope.md R10). -/
def State.isDirty (s : State) (i : Nat) : Bool := s.dirty.read i == 1#1

/-- `Dirty(i) <- d` (00_scope.md R10). -/
def State.setDirty (s : State) (i : Nat) (d : Bool) : State := s.setDirtyRam (s.dirty.write i (BitVec.ofBool d))

/-! ## The reset input -/

/-- Asserting reset while BUSY = 0 (70_reset_and_hazards.md R290, R291): every piece of state takes its reset value.  The
parameters are the machine's and stay; the inputs and the record of what the host has read are the outside world's and
stay; the RAM contents are unspecified, a fresh draw (log entries 1, 5 and 13). -/
def State.applyReset (s : State) : State :=
  { State.reset with
    params := s.params
    tiles := Ram.unspecified 8 s.draws
    dirty := Ram.unspecified 1 s.draws
    busAnswers := s.busAnswers
    pending := s.pending
    hostReadsRev := s.hostReadsRev
    draws := s.draws + 1 }

/-! ## Pixel procedures -/

/-- `InBounds(x, y)` (40_framebuffer.md R131). -/
def State.inBounds (s : State) (x y : Int) : Bool :=
  decide (0 ≤ x) && decide (x < s.fb.columns) && decide (0 ≤ y) && decide (y < s.fb.height)

/-- The index of the tile that holds pixel `(x, y)`: `(y div 8) * FB.columns + x` (20_memory.md R80). -/
def State.tileIndex (s : State) (x y : Int) : Nat := y.toNat / bitsPerTile * s.fb.columns + x.toNat

/-- The tile with bit `n` set to `v` (40_framebuffer.md R132). -/
def withTileBit (t : Byte) (n : Nat) (v : Bool) : Byte :=
  if v then t ||| (1#8 <<< n) else t &&& ~~~(1#8 <<< n)

/-- Mark tile `i` dirty, counting it if it was clean (40_framebuffer.md R132, 10_state.md R34). -/
def State.markDirty (s : State) (i : Nat) : State :=
  if s.isDirty i then s else (s.setDirty i true).setCount (s.fb.count + 1)

/-- `PixelSet(x, y, v)` (40_framebuffer.md R132). -/
def pixelSet (s : State) (x y : Int) (v : Bool) : State × Status :=
  if s.inBounds x y then
    let bit := y.toNat % bitsPerTile
    let i := s.tileIndex x y
    let t := s.tile i
    if t.getLsbD bit = v then (s, .ok)
    else ((s.setTile i (withTileBit t bit v)).markDirty i, .ok)
  else (s, .outOfBounds)

/-- `PixelGet(x, y)`; `none` is its OUT_OF_BOUNDS (40_framebuffer.md R132). -/
def pixelGet (s : State) (x y : Int) : Option Bool :=
  if s.inBounds x y then some ((s.tile (s.tileIndex x y)).getLsbD (y.toNat % bitsPerTile)) else none

/-! ## Stack procedures -/

/-- `StackAlloc(S, c)`: capacity coerced to at least 1; `none` is OUT_OF_MEMORY (43_fill_stack.md R234). -/
def stackAlloc (maxEntries c : Nat) : Option Stack :=
  let c1 := max 1 c
  if c1 > maxEntries then none else some ⟨true, c1, []⟩

/-- `StackPush(S, v)`: a full stack doubles its capacity first; `none` is OUT_OF_MEMORY, with the stack left unmodified
(43_fill_stack.md R235). -/
def stackPush (maxEntries : Nat) (S : Stack) (v : Half) : Option Stack :=
  if S.count = S.cap then
    if 2 * S.cap > maxEntries then none
    else some { S with cap := 2 * S.cap, entries := v :: S.entries }
  else some { S with entries := v :: S.entries }

/-- `StackPop(S)`: last in, first out; `none` is NOT_FOUND (43_fill_stack.md R236). -/
def stackPop (S : Stack) : Option (Half × Stack) :=
  match S.entries with
  | [] => none
  | v :: rest => some (v, { S with entries := rest })

/-- `StackDealloc(S)`: the released stack is nulled out (43_fill_stack.md R237). -/
def stackDealloc : Stack := Stack.none

/-! ## The bus port -/

/-- A procedure on the bus: it changes the state and returns OK or the status of its first failing step
(20_memory.md R74). -/
abbrev BusProc := State → State × BusStatus

/-- What the transport answers the next write with: the next listed answer, and past the list `BusOracle`
(20_memory.md R70, R71, log entry 4). -/
def State.nextAnswer (s : State) (addr : BusAddr) (bytes : List Byte) (held : Bool) : BusStatus :=
  match s.busAnswers with
  | a :: _ => a
  | [] => Config.busOracle s.busLog addr bytes held

/-- `BusWrite(addr, bytes)` (20_memory.md R70). -/
def busWrite (addr : BusAddr) (bytes : List Byte) : BusProc := fun s =>
  let held := !s.busMode
  let st := s.nextAnswer addr bytes held
  (s.dropAnswer.logEvent (.write addr bytes held st), st)

/-- `BusStop()` (20_memory.md R69): BUSMODE is left unchanged. -/
def busStop (s : State) : State := s.logEvent .stop

/-- Steps in order: a failing step ends the body at once with its status (20_memory.md R74). -/
def andThen (p q : BusProc) : BusProc := fun s =>
  let r := p s
  match r.2 with
  | .ok => q r.1
  | _ => r

/-- A body without steps. -/
def nothingSent : BusProc := fun s => (s, .ok)

/-- The exit steps of a wrap: restore the saved mode, and emit the stop if it was 1, that is, if this wrap is the
outermost (20_memory.md R74, 90_conflicts.md C1). -/
def seqExit (saved : Bool) (s : State) : State :=
  if saved then busStop (s.setBusMode saved) else s.setBusMode saved

/-- `Seq { body }`: the held-bus wrap; the exit steps run on every path (20_memory.md R74). -/
def seq (body : BusProc) : BusProc := fun s =>
  let r := body (s.setBusMode false)
  (seqExit s.busMode r.1, r.2)

/-- `Cmd(b)` (20_memory.md R75). -/
def cmdByte (b : Byte) : BusProc := fun s => busWrite s.disp.conf.addr [s.params.typeCmd, b] s

/-- `Data(b)` (20_memory.md R76). -/
def dataByte (b : Byte) : BusProc := fun s => busWrite s.disp.conf.addr [s.params.typeData, b] s

/-- `Cmd` of each byte in turn: a command of n bytes is n writes (20_memory.md R77). -/
def cmdBytes : List Byte → BusProc
  | [] => nothingSent
  | b :: bs => andThen (cmdByte b) (cmdBytes bs)

/-- Run a bus procedure and end the command with its status (60_exceptions.md R264). -/
def finishBus (p : BusProc) (s : State) : State :=
  let r := p s
  r.1.finish (busCode r.2)

end Sys2Proof.Machine
end

