-- ==== Sys2Proof/Machine/Display.lean ====
section
/-! DEFINITION. The display controller commands: the initialisation sequence, display on and off, the update scheduler
with its two paths, and the address range commands (41_display.md R160-R173). -/

namespace Sys2Proof.Machine

open Sys2Proof

/-! ## Shared procedures -/

/-- `SetPageRange(s, e)` (41_display.md R162). -/
def setPageRange (b e : Byte) : BusProc := seq (cmdBytes [0x22#8, b, e])

/-- `SetColRange(s, e)` (41_display.md R163). -/
def setColRange (b e : Byte) : BusProc := seq (cmdBytes [0x21#8, b, e])

/-- The framebuffer is the panel's: the second check of `FbMatches`, made once `FB.alloc = 1` (41_display.md R160). -/
def State.fbMatches (s : State) : Bool :=
  s.fb.alloc && s.fb.columns == panelWidth && s.fb.height == s.disp.height

/-! ## DISP_INIT -/

/-- The command bytes of steps (1) to (8) (41_display.md R164). -/
def initHead (d : Disp) : List Byte :=
  let ext := !d.conf.cpsrc
  [ 0xAE#8,
    0x8D#8, if ext then 0x10#8 else 0x14#8,
    0xA8#8, BitVec.ofNat 8 (d.height - 1),
    0xDA#8, if d.conf.geom then 0x12#8 else 0x02#8,
    0xD5#8, 0x80#8,
    0xD9#8, if ext then 0x22#8 else 0xF1#8,
    0xDB#8, 0x20#8,
    0x20#8, 0x00#8 ]

/-- The command bytes of steps (11) and (12) (41_display.md R164). -/
def initTail (d : Disp) : List Byte := [0xA4#8, 0xA6#8, 0x81#8, if d.conf.cpsrc then 0xCF#8 else 0x9F#8]

/-- Steps (1) to (12): one held-bus sequence (41_display.md R164). -/
def initSequence (d : Disp) : BusProc :=
  seq (andThen (cmdBytes (initHead d))
    (andThen (setPageRange 0x00#8 (BitVec.ofNat 8 (d.pages - 1)))
      (andThen (setColRange 0x00#8 (BitVec.ofNat 8 (panelWidth - 1))) (cmdBytes (initTail d)))))

/-- A flip command, if it is asked for: a separate single-byte sequence (41_display.md R164). -/
def flipSequence (wanted : Bool) (b : Byte) : BusProc := if wanted then seq (cmdBytes [b]) else nothingSent

/-- All that DISP_INIT sends: the sequence, then the vertical flip, then the horizontal one (41_display.md R164). -/
def initAll (d : Disp) : BusProc :=
  andThen (initSequence d) (andThen (flipSequence d.conf.flipv 0xC8#8) (flipSequence d.conf.fliph 0xA1#8))

/-- DISP_INIT: latch CFG into DISP, then send the initialisation sequence (41_display.md R164). -/
def execDispInit (s : State) : Host.Outcome State Fault Refusal :=
  let d : Disp := ⟨true, s.cfg⟩
  .next (finishBus (initAll d) (s.setDisp d))

/-- DISP_ON (41_display.md R166). -/
def execDispOn (v : Bool) (s : State) : Host.Outcome State Fault Refusal :=
  if s.disp.valid then .next (finishBus (seq (cmdBytes [if v then 0xAF#8 else 0xAE#8])) s)
  else .next (s.finish .invalidArgument)

/-! ## The update scheduler -/

/-- `Data(Tile(j))` for `j = i .. i+k-1` (41_display.md R169). -/
def sendTiles : Nat → Nat → BusProc
  | 0, _ => nothingSent
  | k + 1, i => andThen (fun s => dataByte (s.tile i) s) (sendTiles k (i + 1))

/-- What a full update sends (41_display.md R169). -/
def updateAllBody (s : State) : BusProc :=
  andThen (setPageRange 0x00#8 (BitVec.ofNat 8 (s.fb.pages - 1)))
    (andThen (setColRange 0x00#8 (BitVec.ofNat 8 (panelWidth - 1))) (sendTiles s.fb.ntiles 0))

/-- Every dirty bit 0 and FB.count 0 (41_display.md R169, log entry 7). -/
def State.allClean (s : State) : State := (s.setDirtyRam (Ram.zeroed 1)).setCount 0

/-- `UpdateAll()`: the dirty bits are cleared only when every write returned OK (41_display.md R169). -/
def updateAll (s : State) : State :=
  finishBus (andThen (seq (updateAllBody s)) (fun t => (t.allClean, .ok))) s

/-- The address-set pair before tile `i`, unless it continues the run (41_display.md R170). -/
def addressTile (prev : Option Nat) (i pages : Nat) : BusProc :=
  if prev.map (· + 1) = some i then nothingSent
  else andThen (setPageRange (BitVec.ofNat 8 (i / 128)) (BitVec.ofNat 8 (pages - 1)))
    (setColRange (BitVec.ofNat 8 (i % 128)) (BitVec.ofNat 8 (panelWidth - 1)))

/-- `Dirty(i) <- 0; FB.count <- FB.count - 1` (41_display.md R170). -/
def State.cleanTile (s : State) (i : Nat) : State := (s.setDirty i false).setCount (s.fb.count - 1)

/-- Send tile `i` and mark it clean: address it if it starts a run, then its data byte (41_display.md R170). -/
def sendDirtyTile (prev : Option Nat) (i : Nat) : BusProc := fun s =>
  andThen (addressTile prev i s.fb.pages)
    (andThen (fun t => dataByte (t.tile i) t) (fun t => (t.cleanTile i, .ok))) s

/-- The walk over the tiles `i .. i+k-1`, `prev` the tile streamed last, stopping early when FB.count reaches 0
(41_display.md R170). -/
def diffWalk : Nat → Nat → Option Nat → BusProc
  | 0, _, _ => nothingSent
  | k + 1, i, prev => fun s =>
    if s.isDirty i then
      andThen (sendDirtyTile prev i) (fun t => if t.fb.count = 0 then (t, .ok) else diffWalk k (i + 1) (some i) t) s
    else diffWalk k (i + 1) prev s

/-- `UpdateDiff()` (41_display.md R170). -/
def updateDiff (s : State) : State :=
  if s.fb.count = 0 then s.finish .ok else finishBus (seq (diffWalk s.fb.ntiles 0 none)) s

/-- `DispReady; FbMatches`, the checks at the entry of every update command (41_display.md R160). -/
def State.updateReady (s : State) : Bool := s.disp.valid && s.fbMatches

/-- DISP_UPDATE: nothing when no tile is dirty, else the full path above the threshold and the differential path up to it
(41_display.md R167, R168). -/
def execDispUpdate (s : State) : Host.Outcome State Fault Refusal :=
  if s.updateReady then
    if s.fb.count = 0 then .next (s.finish .ok)
    else if s.fb.count > s.dispThresh then .next (updateAll s)
    else .next (updateDiff s)
  else .next (s.finish .invalidArgument)

/-- DISP_UPDATE_ALL (41_display.md R169). -/
def execDispUpdateAll (s : State) : Host.Outcome State Fault Refusal :=
  if s.updateReady then .next (updateAll s) else .next (s.finish .invalidArgument)

/-- DISP_UPDATE_DIFF (41_display.md R170). -/
def execDispUpdateDiff (s : State) : Host.Outcome State Fault Refusal :=
  if s.updateReady then .next (updateDiff s) else .next (s.finish .invalidArgument)

/-! ## The range commands -/

/-- A range command with operands ARG0 and ARG1: each must fit a byte, and nothing else is checked
(41_display.md R172, R173). -/
def rangeCommand (send : Byte → Byte → BusProc) (s : State) : State :=
  if s.disp.valid then
    if s.u16 0 ≤ 0xFF ∧ s.u16 1 ≤ 0xFF then
      finishBus (send (BitVec.ofNat 8 (s.u16 0)) (BitVec.ofNat 8 (s.u16 1))) s
    else s.finish .invalidArgument
  else s.finish .invalidArgument

/-- DISP_SET_COL_RANGE (41_display.md R172). -/
def execDispSetColRange (s : State) : Host.Outcome State Fault Refusal := .next (rangeCommand setColRange s)

/-- DISP_SET_PAGE_RANGE (41_display.md R173). -/
def execDispSetPageRange (s : State) : Host.Outcome State Fault Refusal := .next (rangeCommand setPageRange s)

end Sys2Proof.Machine
end

