-- ==== Sys2Proof/Machine/FillStack.lean ====
section
/-! DEFINITION. The flood-fill engine and the host stack commands (43_fill_stack.md R230-R241).  Each loop of the spec is
a recursion on a number of iterations it cannot exceed (60_exceptions.md R265, log entry 12). -/

namespace Sys2Proof.Machine

open Sys2Proof

/-! ## The fill engine -/

/-- One push on FSTK (43_fill_stack.md R235). -/
def pushSeedEntry (v : Half) (s : State) : State × Status :=
  match stackPush s.params.stackMaxEntries s.fstk v with
  | some S => (s.setFstk S, .ok)
  | none => (s, .outOfMemory)

/-- `Push2(x, y)` less its `StackDealloc`, which `fill` does on every exit: `x` first, so `y` is popped first
(43_fill_stack.md R230, R231). -/
def pushSeed (x y : Int) (s : State) : State × Status :=
  let r := pushSeedEntry (BitVec.ofInt 16 x) s
  match r.2 with
  | .ok => pushSeedEntry (BitVec.ofInt 16 y) r.1
  | _ => r

/-- Scan left to the run's edge: `while PixelGet(x - 1, y) = m: x <- x - 1` (43_fill_stack.md R231). -/
def scanLeft (m : Bool) (y : Int) (s : State) : Nat → Int → Int
  | 0, x => x
  | k + 1, x => if pixelGet s (x - 1) y = some m then scanLeft m y s k (x - 1) else x

/-- One side of the scan: the neighbour row `yy` at column `x` and its latch (43_fill_stack.md R231). -/
def fillSide (m : Bool) (x yy : Int) (latch : Bool) (s : State) : (State × Status) × Bool :=
  match pixelGet s x yy with
  | none => ((s, .ok), latch)
  | some u =>
    if u = m then if latch then ((s, .ok), latch) else (pushSeed x yy s, true)
    else ((s, .ok), false)

/-- Scan right, repainting, with the two "push next valid" latches (43_fill_stack.md R231). -/
def scanRight (m n : Bool) (y : Int) : Nat → Int → Bool → Bool → State → State × Status
  | 0, _, _, _, s => (s, .ok)
  | k + 1, x, above, below, s =>
    if pixelGet s x y = some m then
      let a := fillSide m x (y - 1) above (pixelSet s x y n).1
      match a.1.2 with
      | .ok =>
        let b := fillSide m x (y + 1) below a.1.1
        match b.1.2 with
        | .ok => scanRight m n y k (x + 1) a.2 b.2 b.1.1
        | _ => b.1
      | _ => a.1
    else (s, .ok)

/-- Paint the run of a popped seed, if its pixel equals `m` (43_fill_stack.md R231, 90_conflicts.md C8). -/
def fillSeed (m n : Bool) (x y : Int) (s : State) : State × Status :=
  if pixelGet s x y = some m then
    scanRight m n y s.fb.columns (scanLeft m y s s.fb.columns x) false false s
  else (s, .ok)

/-- The outer loop: pop a seed, `y` first, and paint its run, until FSTK is empty (43_fill_stack.md R231). -/
def fillLoop (m n : Bool) : Nat → State → State × Status
  | 0, s => (s, .ok)
  | k + 1, s =>
    match stackPop s.fstk with
    | none => (s, .ok)
    | some (y, S1) =>
      match stackPop S1 with
      | none => (s.setFstk S1, .ok)
      | some (x, S2) =>
        let r := fillSeed m n x.toNat y.toNat (s.setFstk S2)
        match r.2 with
        | .ok => fillLoop m n k r.1
        | _ => r

/-- The outer iterations a fill can need: the seed given, two seeds per pixel repainted, and the test that finds FSTK
empty (60_exceptions.md R265, log entry 12). -/
def fillSteps (s : State) : Nat := 2 * (s.fb.columns * s.fb.height) + 2

/-- The walk of a fill whose FSTK has just been allocated: push the seed, then loop (43_fill_stack.md R231). -/
def fillWalk (x y : Int) (m n : Bool) (s : State) : State × Status :=
  let r := pushSeed x y s
  match r.2 with
  | .ok => fillLoop m n (fillSteps s) r.1
  | _ => r

/-- `Fill(sx, sy, m, n)`, which ends the command: FSTK is released on every exit after it was allocated
(43_fill_stack.md R231). -/
def fill (x y : Int) (m n : Bool) (s : State) : State :=
  if pixelGet s x y = none then s.finish .outOfBounds
  else if m = n then s.finish .ok
  else
    match stackAlloc s.params.stackMaxEntries s.params.fillStackInitCapacity with
    | none => s.finish .outOfMemory
    | some S =>
      let r := fillWalk x y m n (s.setFstk S)
      (r.1.setFstk stackDealloc).finish r.2

/-- DRAW_FILL: `v` is new_value and `m` is match_value (43_fill_stack.md R232). -/
def execDrawFill (v m : Bool) (s : State) : Host.Outcome State Fault Refusal :=
  if s.fb.alloc then .next (fill (s.s16 0) (s.s16 1) m v s) else .next (s.finish .invalidArgument)

/-! ## The host stack commands -/

/-- Write STK if the procedure gave one, and end the command: OK, or OUT_OF_MEMORY with STK unchanged
(43_fill_stack.md R238, R239). -/
def finishStk (S : Option Stack) (s : State) : State :=
  match S with
  | some S => (s.setStk S).finish .ok
  | none => s.finish .outOfMemory

/-- STK_ALLOC (43_fill_stack.md R238). -/
def execStkAlloc (s : State) : Host.Outcome State Fault Refusal :=
  if s.stk.alloc then .next (s.finish .invalidArgument)
  else .next (finishStk (stackAlloc s.params.stackMaxEntries (s.u16 0)) s)

/-- STK_PUSH (43_fill_stack.md R239). -/
def execStkPush (s : State) : Host.Outcome State Fault Refusal :=
  if s.stk.alloc then .next (finishStk (stackPush s.params.stackMaxEntries s.stk s.arg0) s)
  else .next (s.finish .invalidArgument)

/-- STK_POP: RESULT is written only on OK (43_fill_stack.md R240, 10_state.md R23). -/
def execStkPop (s : State) : Host.Outcome State Fault Refusal :=
  if s.stk.alloc then
    match stackPop s.stk with
    | some (v, S) => .next (((s.setStk S).setResult (v.zeroExtend 32)).finish .ok)
    | none => .next (s.finish .notFound)
  else .next (s.finish .invalidArgument)

/-- STK_DEALLOC (43_fill_stack.md R241). -/
def execStkDealloc (s : State) : Host.Outcome State Fault Refusal :=
  if s.stk.alloc then .next ((s.setStk stackDealloc).finish .ok) else .next (s.finish .invalidArgument)

end Sys2Proof.Machine
end

