-- ==== Sys2Proof/Machine/Framebuffer.lean ====
section
/-! DEFINITION. The framebuffer commands (40_framebuffer.md R130-R137).  No command of this family touches the bus. -/

namespace Sys2Proof.Machine

open Sys2Proof

/-- FB_CREATE (40_framebuffer.md R133): the dirty bits are zeroed, the tile bytes are unspecified, a fresh draw
(log entries 5 and 7). -/
def fbCreate (w h : Nat) (s : State) : State :=
  if s.fb.alloc then s.finish .invalidArgument
  else if 1 ≤ w ∧ w ≤ maxDim ∧ 1 ≤ h ∧ h ≤ maxDim then
    let p := (h + 7) / 8
    let n := w * p
    if n ≤ s.params.fbMaxTiles then
      ((((s.setFb ⟨true, w, h, p, n, 0⟩).setDirtyRam (Ram.zeroed 1)).setTiles
        (Ram.unspecified 8 s.draws)).drew).finish .ok
    else s.finish .outOfMemory
  else s.finish .invalidArgument

/-- FB_CREATE: width in ARG0, height in ARG1 (40_framebuffer.md R133). -/
def execFbCreate (s : State) : Host.Outcome State Fault Refusal := .next (fbCreate (s.u16 0) (s.u16 1) s)

/-- FB_CLEAR: every tile 0x00, every tile dirty (40_framebuffer.md R134, log entry 7). -/
def execFbClear (s : State) : Host.Outcome State Fault Refusal :=
  if s.fb.alloc then
    .next ((((s.setTiles (Ram.zeroed 8)).setDirtyRam (Ram.onesBelow s.fb.ntiles)).setCount s.fb.ntiles).finish .ok)
  else .next (s.finish .invalidArgument)

/-- FB_SET_PIXEL: x in ARG0, y in ARG1 (40_framebuffer.md R135). -/
def execFbSetPixel (v : Bool) (s : State) : Host.Outcome State Fault Refusal :=
  if s.fb.alloc then
    let r := pixelSet s (s.s16 0) (s.s16 1) v
    .next (r.1.finish r.2)
  else .next (s.finish .invalidArgument)

/-- FB_GET_PIXEL: x in ARG0, y in ARG1; RESULT is written only on OK (40_framebuffer.md R136, 10_state.md R23). -/
def execFbGetPixel (s : State) : Host.Outcome State Fault Refusal :=
  if s.fb.alloc then
    match pixelGet s (s.s16 0) (s.s16 1) with
    | some b => .next ((s.setResult ((BitVec.ofBool b).zeroExtend 32)).finish .ok)
    | none => .next (s.finish .outOfBounds)
  else .next (s.finish .invalidArgument)

/-- FB_DESTROY: the record is nulled out; the RAM contents become unspecified, a fresh draw (40_framebuffer.md R137,
log entry 5). -/
def execFbDestroy (s : State) : Host.Outcome State Fault Refusal :=
  if s.fb.alloc then
    .next (((((s.setFb Fb.none).setTiles (Ram.unspecified 8 s.draws)).setDirtyRam
      (Ram.unspecified 1 s.draws)).drew).finish .ok)
  else .next (s.finish .invalidArgument)

end Sys2Proof.Machine
end

