-- ==== Sys2Proof/Machine/Raster.lean ====
section
/-! DEFINITION. The rasterizers: point generators over exact integers, and the commands that plot their points
(42_draw.md R200-R207).  Each loop of the spec is a recursion on the number of iterations 60_exceptions.md R265 bounds
it by (log entry 12). -/

namespace Sys2Proof.Machine

open Sys2Proof

/-- A point of the plane; it need not lie in the framebuffer (42_draw.md R200). -/
abbrev Pt := Int × Int

/-- `Plot` each point in list order: a point outside the framebuffer is skipped (42_draw.md R200). -/
def plotAll (v : Bool) : List Pt → State → State
  | [], s => s
  | p :: ps, s => plotAll v ps (pixelSet s p.1 p.2 v).1

/-- The loop of `LinePts` (42_draw.md R201): `dx`, `dy`, `sx`, `sy` and the end point do not change in it. -/
def lineWalk (x1 y1 dx dy sx sy : Int) : Nat → Int → Int → Int → List Pt
  | 0, _, _, _ => []
  | n + 1, x, y, err =>
    (x, y) ::
      if x = x1 ∧ y = y1 then []
      else
        let e2 := 2 * err
        let stepX := dy ≤ e2
        let stepY := e2 ≤ dx
        lineWalk x1 y1 dx dy sx sy n (if stepX then x + sx else x) (if stepY then y + sy else y)
          (err + (if stepX then dy else 0) + (if stepY then dx else 0))

/-- `LinePts(x0, y0, x1, y1)` (42_draw.md R201): at most `max(|dx|, |dy|) + 1` iterations (60_exceptions.md R265). -/
def linePts (x0 y0 x1 y1 : Int) : List Pt :=
  let dx : Int := (x1 - x0).natAbs
  let dy : Int := -((y1 - y0).natAbs : Int)
  let sx : Int := if x0 < x1 then 1 else -1
  let sy : Int := if y0 < y1 then 1 else -1
  lineWalk x1 y1 dx dy sx sy (max (x1 - x0).natAbs (y1 - y0).natAbs + 1) x0 y0 (dx + dy)

/-- The four edges of DRAW_RECT: top, right, bottom, left (42_draw.md R203). -/
def rectPts (x0 y0 x1 y1 : Int) : List Pt :=
  linePts x0 y0 x1 y0 ++ (linePts x1 y0 x1 y1 ++ (linePts x1 y1 x0 y1 ++ linePts x0 y1 x0 y0))

/-- The eight points of one iteration of `CirclePts` (42_draw.md R204). -/
def circleOctants (xc yc x y : Int) : List Pt :=
  [(xc + x, yc + y), (xc + y, yc + x), (xc - y, yc + x), (xc - x, yc + y),
    (xc - x, yc - y), (xc - y, yc - x), (xc + y, yc - x), (xc + x, yc - y)]

/-- The loop of `CirclePts` (42_draw.md R204). -/
def circleWalk (xc yc : Int) : Nat → Int → Int → Int → List Pt
  | 0, _, _, _ => []
  | n + 1, x, y, err =>
    if y ≤ x then
      circleOctants xc yc x y ++
        (let y' := y + 1
         if err < 0 then circleWalk xc yc n x y' (err + 2 * y' + 1)
         else circleWalk xc yc n (x - 1) y' (err + 2 * (y' - (x - 1)) + 1))
    else []

/-- `CirclePts(xc, yc, r)` (42_draw.md R204): at most `r + 1` iterations (60_exceptions.md R265). -/
def circlePts (xc yc : Int) (r : Nat) : List Pt := circleWalk xc yc (r + 1) r 0 (1 - r)

/-- The variables of the loops of `EllipsePts` that change in them (42_draw.md R206). -/
structure EllipseVars where
  x0 : Int
  y0 : Int
  x1 : Int
  y1 : Int
  dx : Int
  dy : Int
  err : Int
deriving DecidableEq, Repr

/-- The values before the main loop (42_draw.md R206). -/
def ellipseStart (x0 y0 x1 y1 : Int) : EllipseVars :=
  let a : Int := (x1 - x0).natAbs
  let b : Int := (y1 - y0).natAbs
  let b1 : Int := b % 2
  let dx := 4 * (1 - a) * b * b
  let dy := 4 * (b1 + 1) * a * a
  let xl := if x0 > x1 then x1 else x0
  let xr := if x0 > x1 then x1 + a else x1
  let yt := if y0 > y1 then y1 else y0
  let ys := yt + (b + 1) / 2
  ⟨xl, ys, xr, ys - b1, dx, dy, dx + dy + b1 * a * a⟩

/-- One iteration's updates: both tests use the `e2` of its top, the second test's `2*err` the `err` after the first
test's update (42_draw.md R206).  `a8` is `8*a*a` and `b8` is `8*b*b`. -/
def ellipseNext (a8 b8 : Int) (t : EllipseVars) : EllipseVars :=
  let e2 := 2 * t.err
  let u := if e2 ≤ t.dy then
      { t with y0 := t.y0 + 1, y1 := t.y1 - 1, dy := t.dy + a8, err := t.err + (t.dy + a8) }
    else t
  if u.dx ≤ e2 ∨ u.dy < 2 * u.err then
    { u with x0 := u.x0 + 1, x1 := u.x1 - 1, dx := u.dx + b8, err := u.err + (u.dx + b8) }
  else u

/-- The tip loop: `while y0 - y1 <= b` (42_draw.md R206). -/
def ellipseTip (b : Int) : Nat → EllipseVars → List Pt
  | 0, _ => []
  | n + 1, t =>
    if t.y0 - t.y1 ≤ b then
      [(t.x0 - 1, t.y0), (t.x1 + 1, t.y0), (t.x0 - 1, t.y1), (t.x1 + 1, t.y1)] ++
        ellipseTip b n { t with y0 := t.y0 + 1, y1 := t.y1 - 1 }
    else []

/-- The main loop, four quadrants at once, then the tip loop (42_draw.md R206). -/
def ellipseWalk (a8 b8 b : Int) (tipSteps : Nat) : Nat → EllipseVars → List Pt
  | 0, _ => []
  | n + 1, t =>
    [(t.x1, t.y0), (t.x0, t.y0), (t.x0, t.y1), (t.x1, t.y1)] ++
      (let u := ellipseNext a8 b8 t
       if u.x0 > u.x1 then ellipseTip b tipSteps u else ellipseWalk a8 b8 b tipSteps n u)

/-- `EllipsePts(x0, y0, x1, y1)` (42_draw.md R206): at most `|x1-x0| + |y1-y0| + 2` iterations (60_exceptions.md R265). -/
def ellipsePts (x0 y0 x1 y1 : Int) : List Pt :=
  let a := (x1 - x0).natAbs
  let b := (y1 - y0).natAbs
  ellipseWalk (8 * a * a) (8 * b * b) b (b + 2) (a + b + 2) (ellipseStart x0 y0 x1 y1)

/-- The frame of every rasterizer command (42_draw.md R200). -/
def rasterCommand (pts : List Pt) (v : Bool) (s : State) : State :=
  if s.fb.alloc then (plotAll v pts s).finish .ok else s.finish .invalidArgument

/-- DRAW_LINE (42_draw.md R202). -/
def execDrawLine (v : Bool) (s : State) : Host.Outcome State Fault Refusal :=
  .next (rasterCommand (linePts (s.s16 0) (s.s16 1) (s.s16 2) (s.s16 3)) v s)

/-- DRAW_RECT (42_draw.md R203). -/
def execDrawRect (v : Bool) (s : State) : Host.Outcome State Fault Refusal :=
  .next (rasterCommand (rectPts (s.s16 0) (s.s16 1) (s.s16 2) (s.s16 3)) v s)

/-- DRAW_CIRCLE: the radius is unsigned (42_draw.md R205). -/
def execDrawCircle (v : Bool) (s : State) : Host.Outcome State Fault Refusal :=
  .next (rasterCommand (circlePts (s.s16 0) (s.s16 1) (s.u16 2)) v s)

/-- DRAW_ELLIPSE_RECT (42_draw.md R207). -/
def execDrawEllipseRect (v : Bool) (s : State) : Host.Outcome State Fault Refusal :=
  .next (rasterCommand (ellipsePts (s.s16 0) (s.s16 1) (s.s16 2) (s.s16 3)) v s)

end Sys2Proof.Machine
end

