-- ==== Sys2Proof/Machine/Dispatch.lean ====
section
/-! DEFINITION. The meaning of each command, one arm per row of the opcode map (30_encoding.md R106). -/

namespace Sys2Proof.Machine

open Sys2Proof

/-- Run one decoded command to completion (00_scope.md R5, R12). -/
def exec (i : Instr) (s : State) : Host.Outcome State Fault Refusal :=
  match i with
  | .fbCreate => Sys2Proof.Machine.execFbCreate s
  | .fbClear => Sys2Proof.Machine.execFbClear s
  | .fbSetPixel v => Sys2Proof.Machine.execFbSetPixel v s
  | .fbGetPixel => Sys2Proof.Machine.execFbGetPixel s
  | .fbDestroy => Sys2Proof.Machine.execFbDestroy s
  | .dispInit => Sys2Proof.Machine.execDispInit s
  | .dispOn v => Sys2Proof.Machine.execDispOn v s
  | .dispUpdate => Sys2Proof.Machine.execDispUpdate s
  | .dispUpdateAll => Sys2Proof.Machine.execDispUpdateAll s
  | .dispUpdateDiff => Sys2Proof.Machine.execDispUpdateDiff s
  | .dispSetColRange => Sys2Proof.Machine.execDispSetColRange s
  | .dispSetPageRange => Sys2Proof.Machine.execDispSetPageRange s
  | .drawLine v => Sys2Proof.Machine.execDrawLine v s
  | .drawRect v => Sys2Proof.Machine.execDrawRect v s
  | .drawCircle v => Sys2Proof.Machine.execDrawCircle v s
  | .drawEllipseRect v => Sys2Proof.Machine.execDrawEllipseRect v s
  | .drawFill v m => Sys2Proof.Machine.execDrawFill v m s
  | .stkAlloc => Sys2Proof.Machine.execStkAlloc s
  | .stkPush => Sys2Proof.Machine.execStkPush s
  | .stkPop => Sys2Proof.Machine.execStkPop s
  | .stkDealloc => Sys2Proof.Machine.execStkDealloc s

end Sys2Proof.Machine
end

