-- ==== Sys2Proof/Machine/HostPort.lean ====
section
/-! DEFINITION. The host port: the register map (10_state.md R20), the two windows (20_memory.md R61, R62), what a host
read returns and what a host write does (R60, R63, R65), and the rules while a command runs (60_exceptions.md R274).

A host access is made at an address, `DCUE_BASE` plus its offset (R60); past the address decoding of `memRead` and `memWrite`
everything is by offset (log entry 14). -/

namespace Sys2Proof.Machine

open Sys2Proof

/-- The 14 host registers (10_state.md R20). -/
inductive Reg where
  | cmd | status | result | cfg | arg0 | arg1 | arg2 | arg3
  | fbGeom | fbPages | fbDirtyCount | dispCfg | stkCap | stkCount
deriving DecidableEq, Repr

/-- The registers in the order of their offsets (10_state.md R20). -/
def allRegs : List Reg :=
  [.cmd, .status, .result, .cfg, .arg0, .arg1, .arg2, .arg3, .fbGeom, .fbPages, .fbDirtyCount, .dispCfg, .stkCap,
    .stkCount]

/-- The byte offset of a register (10_state.md R20). -/
def regOffset : Reg → Fin 0x30000
  | .cmd => 0x000
  | .status => 0x004
  | .result => 0x008
  | .cfg => 0x00C
  | .arg0 => 0x010
  | .arg1 => 0x014
  | .arg2 => 0x018
  | .arg3 => 0x01C
  | .fbGeom => 0x020
  | .fbPages => 0x024
  | .fbDirtyCount => 0x028
  | .dispCfg => 0x02C
  | .stkCap => 0x030
  | .stkCount => 0x034

/-- The offset of word `i` of the TILE window (20_memory.md R61). -/
def tileOffset (i : Fin 16384) : Fin 0x30000 := ⟨0x10000 + 4 * i.val, by omega⟩

/-- The offset of word `i` of the DIRTY window (20_memory.md R61). -/
def dirtyOffset (i : Fin 16384) : Fin 0x30000 := ⟨0x20000 + 4 * i.val, by omega⟩

/-- The address of an offset: `DCUE_BASE + off` (20_memory.md R60). -/
def hostAddr (p : Params) (off : Fin 0x30000) : Nat := p.dcueBase + off.val

/-- The offset of an address, when it is an address of the DCUE's host space, `DCUE_BASE .. DCUE_BASE + 0x2FFFF`
(20_memory.md R60). -/
def offsetOf (p : Params) (addr : Nat) : Option (Fin 0x30000) :=
  if h : p.dcueBase ≤ addr ∧ addr - p.dcueBase < 0x30000 then some ⟨addr - p.dcueBase, h.2⟩ else none

/-- `MemRead(addr, width)`, as the DCUE's host port sees it; `none` when the address is not the DCUE's, which the access then
does not reach (20_memory.md R60, log entry 14). -/
def memRead (p : Params) (addr width : Nat) (early : Bool) : Option HostEvent :=
  (offsetOf p addr).map fun off => ⟨.read off width, early⟩

/-- `MemWrite(addr, width, v)`, as the DCUE's host port sees it; `none` when the address is not the DCUE's
(20_memory.md R60, log entry 14). -/
def memWrite (p : Params) (addr width : Nat) (v : Word) (early : Bool) : Option HostEvent :=
  (offsetOf p addr).map fun off => ⟨.write off width v, early⟩

/-- What an offset of the host space holds (20_memory.md R61). -/
inductive Region where
  | reg (r : Reg)
  | tile (i : Nat)
  | dirty (i : Nat)
  | unmapped
deriving DecidableEq, Repr

/-- The region of an aligned offset (20_memory.md R61). -/
def regionOf (off : Fin 0x30000) : Region :=
  if off.val < 0x10000 then
    match allRegs.find? (fun r => regOffset r == off) with
    | some r => .reg r
    | none => .unmapped
  else if off.val < 0x20000 then .tile ((off.val - 0x10000) / 4)
  else .dirty ((off.val - 0x20000) / 4)

/-- What a register reads as while BUSY = 0, and STATUS at all times (10_state.md R21-R29). -/
def State.readReg (s : State) : Reg → Word
  | .cmd => s.cmd
  | .status => s.statusWord
  | .result => s.result
  | .cfg => s.cfg.word
  | .arg0 => s.arg0.zeroExtend 32
  | .arg1 => s.arg1.zeroExtend 32
  | .arg2 => s.arg2.zeroExtend 32
  | .arg3 => s.arg3.zeroExtend 32
  | .fbGeom => if s.fb.alloc then BitVec.ofNat 16 s.fb.height ++ BitVec.ofNat 16 s.fb.columns else 0
  | .fbPages => if s.fb.alloc then 1#1 ++ (0#15 ++ BitVec.ofNat 16 s.fb.pages) else 0
  | .fbDirtyCount => BitVec.ofNat 32 s.fb.count
  | .dispCfg => BitVec.ofBool s.disp.valid ++ (0#19 ++ s.disp.conf.bits)
  | .stkCap => if s.stk.alloc then BitVec.ofNat 32 s.stk.cap else 0
  | .stkCount => if s.stk.alloc then BitVec.ofNat 32 s.stk.count else 0

/-- A window word is readable when a framebuffer exists and the tile is one of its tiles (20_memory.md R62). -/
def State.inWindow (s : State) (i : Nat) : Bool := s.fb.alloc && decide (i < s.fb.ntiles)

/-- `MemRead` of an aligned word while BUSY = 0 (20_memory.md R62, R63). -/
def State.readWord (s : State) (off : Fin 0x30000) : Word :=
  match regionOf off with
  | .reg r => s.readReg r
  | .tile i => if s.inWindow i then (s.tile i).zeroExtend 32 else 0
  | .dirty i => if s.inWindow i then (BitVec.ofBool (s.isDirty i)).zeroExtend 32 else 0
  | .unmapped => 0

/-- A CMD write while BUSY = 0 stores the word and starts the command (10_state.md R21). -/
def State.acceptCommand (s : State) (w : Word) : State := { s with cmd := w, busy := true }

/-- `reg[CFG] <- c` (10_state.md R24). -/
def State.setCfg (s : State) (c : DispConf) : State := { s with cfg := c }

/-- A host write of `v` to ARG`n` stores bits 15:0 (10_state.md R25). -/
def State.setArg (s : State) (n : Fin 4) (v : Half) : State :=
  match n with
  | 0 => { s with arg0 := v }
  | 1 => { s with arg1 := v }
  | 2 => { s with arg2 := v }
  | 3 => { s with arg3 := v }

/-- A host write to a register while BUSY = 0: a write to a read-only register has no effect (20_memory.md R63). -/
def State.writeReg (s : State) (r : Reg) (v : Word) : State :=
  match r with
  | .cmd => s.acceptCommand v
  | .cfg => s.setCfg (DispConf.ofWord v)
  | .arg0 => s.setArg 0 (v.extractLsb' 0 16)
  | .arg1 => s.setArg 1 (v.extractLsb' 0 16)
  | .arg2 => s.setArg 2 (v.extractLsb' 0 16)
  | .arg3 => s.setArg 3 (v.extractLsb' 0 16)
  | .status | .result | .fbGeom | .fbPages | .fbDirtyCount | .dispCfg | .stkCap | .stkCount => s

/-- `MemWrite` of an aligned word while BUSY = 0: writes to a window or to an unmapped offset have no effect
(20_memory.md R63). -/
def State.writeWord (s : State) (off : Fin 0x30000) (v : Word) : State :=
  match regionOf off with
  | .reg r => s.writeReg r v
  | .tile _ | .dirty _ | .unmapped => s

/-- Is the access an aligned 32-bit access, the only kind defined (20_memory.md R60)? -/
def wordAligned (off : Fin 0x30000) (width : Nat) : Bool := width == 4 && off.val % 4 == 0

/-- Record a value the host has read (30_encoding.md R112). -/
def State.recordRead (s : State) (off : Fin 0x30000) (v : Word) : State :=
  { s with hostReadsRev := ⟨off, v⟩ :: s.hostReadsRev }

/-- A host read: while BUSY = 1 any offset but STATUS returns an unspecified value (60_exceptions.md R274, log entry 9). -/
def State.hostRead (s : State) (off : Fin 0x30000) : State :=
  if s.busy && off != regOffset .status then (s.recordRead off (Config.freeRead s.draws)).drew
  else s.recordRead off (s.readWord off)

/-- A host write: while BUSY = 1 it is ignored, whatever its offset (60_exceptions.md R274). -/
def State.hostWrite (s : State) (off : Fin 0x30000) (v : Word) : State :=
  if s.busy then s else s.writeWord off v

/-- An action of the host comes next (60_exceptions.md R275). -/
def State.pushPending (s : State) (e : HostEvent) : State := { s with pending := e :: s.pending }

/-- The rest of a WAIT loop of which at most `k` more polls come before the engine's step: the next poll is early as long as
`k` is not 0 (log entry 19). -/
def waitEvent (k : Nat) : HostEvent := ⟨.wait k, decide (0 < k)⟩

/-- One turn of the WAIT loop: `s <- MemRead(DCUE_BASE + 0x004, 4); if s[31] = 0 then break`, else the loop goes on
(30_encoding.md R112). -/
def State.pollStatus (s : State) (k : Nat) : State :=
  let w := s.readWord (regOffset .status)
  let t := s.recordRead (regOffset .status) w
  if w.getLsbD 31 then t.pushPending (waitEvent (k - 1)) else t

/-- One action of the host (60_exceptions.md R275). -/
def hostStep (e : HostEvent) (s : State) : Host.Outcome State Fault Refusal :=
  match e.action with
  | .read off width => if wordAligned off width then .next (s.hostRead off) else .refused .hostAccessNotAlignedWord
  | .write off width v =>
    if wordAligned off width then .next (s.hostWrite off v) else .refused .hostAccessNotAlignedWord
  | .wait k => .next (s.pollStatus k)
  | .reset => if s.busy then .refused .resetWhileBusy else .next s.applyReset

/-- The host's turn, if it is one: its next action, and the state without it.  While BUSY = 1 only an early action comes
before the engine (60_exceptions.md R274, log entry 1). -/
def State.hostTurn (s : State) : Option (HostEvent × State) :=
  match s.pending with
  | [] => none
  | e :: rest => if s.busy && !e.early then none else some (e, { s with pending := rest })

end Sys2Proof.Machine
end

