-- ==== Sys2Proof/Machine/Step.lean ====
section
/-! DEFINITION. One step of the machine: the host's next action if it is the host's turn, else, while BUSY = 1, the
command in CMD run to completion, else nothing (60_exceptions.md R274, 92_eei_decisions.md D47, log entry 1). -/

namespace Sys2Proof.Machine

open Sys2Proof

/-- The engine's step: decode CMD and run the command; an illegal word finishes INVALID_ARGUMENT with no other effect
(30_encoding.md R107). -/
def runCommand (s : State) : Host.Outcome State Fault Refusal :=
  match decode s.cmd with
  | .ok i => exec i s
  | .error _ => .next (s.finish .invalidArgument)

/-- One step. -/
def step (s : State) : Host.Outcome State Fault Refusal :=
  match s.hostTurn with
  | some (e, t) => hostStep e t
  | none => if s.busy then runCommand s else .next s

/-- The state with the instruction given in flight, so that the very next step runs it: its word is in CMD, BUSY is 1, and
no early host action stands before the engine's step (log entry 2). -/
def State.withFetchWord (s : State) (nbits w : Nat) : State :=
  { s with cmd := tableWord nbits w, busy := true, pending := s.pending.dropWhile (·.early) }

end Sys2Proof.Machine
end

