-- ==== Sys2Proof/Machine/HostProgram.lean ====
section
/-! DEFINITION. Host programs: the program lines and pseudo-instructions of 30_encoding.md R112-R114, as the host actions
they stand for, and a run of one from its launch to its result (70_reset_and_hazards.md R302, R303).  A program is what the
outside world puts into `State.pending`. -/

namespace Sys2Proof.Machine

open Sys2Proof

/-- A primitive program line (30_encoding.md R112).  `wait` carries how many of its polls come before the engine's step, and so
read BUSY = 1, if a command is in flight; the loop breaks at its first read of BUSY = 0, whatever that number (log entry
19). -/
inductive Line where
  | wr (r : Reg) (v : Word)
  | rd (r : Reg)
  | rdTile (i : Fin 16384)
  | rdDirty (i : Fin 16384)
  | wait (busyPolls : Nat)
deriving DecidableEq, Repr

/-- The host actions of a line: aligned 32-bit accesses at `DCUE_BASE` plus an offset (30_encoding.md R112, R114).  DESIGN CHOICE (log entry 19): a WR or RD
line is not early, so one that follows `WR CMD` without a WAIT still comes after the command.  The spec allows that (a
command may be one atomic step, 92_eei_decisions.md D47) and does not force it; the other reading is the same access marked
early, which `State.pending` can hold but no line stands for. -/
def lineEvents (p : Params) : Line → List HostEvent
  | .wr r v => (memWrite p (hostAddr p (regOffset r)) 4 v false).toList
  | .rd r => (memRead p (hostAddr p (regOffset r)) 4 false).toList
  | .rdTile i => (memRead p (hostAddr p (tileOffset i)) 4 false).toList
  | .rdDirty i => (memRead p (hostAddr p (dirtyOffset i)) 4 false).toList
  | .wait k => [waitEvent k]

/-- How many ARG operands a command's line has (30_encoding.md R113). -/
def argCount : Instr → Nat
  | .fbCreate | .fbSetPixel _ | .fbGetPixel | .dispSetColRange | .dispSetPageRange | .drawFill _ _ => 2
  | .drawLine _ | .drawRect _ | .drawEllipseRect _ => 4
  | .drawCircle _ => 3
  | .stkAlloc | .stkPush => 1
  | .fbClear | .fbDestroy | .dispInit | .dispOn _ | .dispUpdate | .dispUpdateAll | .dispUpdateDiff | .stkPop
  | .stkDealloc => 0

/-- The ARG registers in order. -/
def argRegs : List Reg := [.arg0, .arg1, .arg2, .arg3]

/-- A command line: `WR ARGk, zext_32(ak[15:0])` for each operand in order, then `WR CMD, word`, then `WAIT`
(30_encoding.md R113).  How many polls of the WAIT still read BUSY = 1 the spec leaves open (92_eei_decisions.md D47 allows
none), so it is the argument `busyPolls` (log entry 19). -/
def commandLines (i : Instr) (args : List Int) (busyPolls : Nat) : List Line :=
  ((argRegs.zip args).take (argCount i)).map (fun p => .wr p.1 ((BitVec.ofInt 16 p.2).zeroExtend 32)) ++
    [.wr .cmd (encode i), .wait busyPolls]

/-- `DISP_CONFIG addr, geom, cpsrc, fliph, flipv` (30_encoding.md R113). -/
def dispConfigLine (c : DispConf) : Line := .wr .cfg c.word

/-- `CHECK code` expands to a read of STATUS, whatever the code (30_encoding.md R113). -/
def checkLine : Line := .rd .status

/-- What `CHECK code` states of the value read: it was read from STATUS, and its bits 7:0 equal the code
(30_encoding.md R113). -/
def checkStates (code : Byte) (r : HostRead) : Bool :=
  r.off == regOffset .status && r.value.extractLsb' 0 8 == code

/-- The host actions of a program (30_encoding.md R114). -/
def programEvents (p : Params) (lines : List Line) : List HostEvent := (lines.map (lineEvents p)).flatten

/-- A line as a program is written: a primitive line or a pseudo-instruction (30_encoding.md R112, R113).  A command line
carries, like a WAIT line, the number of polls of its WAIT that still read BUSY = 1 (log entry 19). -/
inductive ProgramLine where
  | primitive (l : Line)
  | command (i : Instr) (args : List Int) (busyPolls : Nat)
  | dispConfig (c : DispConf)
  | check (code : Byte)
deriving DecidableEq, Repr

/-- The primitive lines a program line expands to (30_encoding.md R113). -/
def ProgramLine.expand : ProgramLine → List Line
  | .primitive l => [l]
  | .command i args k => commandLines i args k
  | .dispConfig c => [dispConfigLine c]
  | .check _ => [checkLine]

/-- The values read after those of a WAIT loop: its reads end with the first whose bit 31 is 0 (30_encoding.md R112). -/
def afterWait : List HostRead → List HostRead
  | [] => []
  | r :: rs => if r.value.getLsbD 31 then afterWait rs else rs

/-- The values read after those of a primitive line (30_encoding.md R112). -/
def afterLine (l : Line) (rs : List HostRead) : List HostRead :=
  match l with
  | .wr _ _ => rs
  | .rd _ | .rdTile _ | .rdDirty _ => rs.drop 1
  | .wait _ => afterWait rs

/-- Do the values the host has read, in order from the program's first read, meet every CHECK of the program
(30_encoding.md R113)? -/
def checksHold : List ProgramLine → List HostRead → Bool
  | [], _ => true
  | .check code :: rest, r :: rs => checkStates code r && checksHold rest rs
  | .check _ :: _, [] => false
  | .primitive l :: rest, rs => checksHold rest (afterLine l rs)
  | .command i args k :: rest, rs =>
    checksHold rest ((commandLines i args k).foldl (fun left l => afterLine l left) rs)
  | .dispConfig _ :: rest, rs => checksHold rest rs

/-! ## Runs: launch and end -/

/-- A host program with the start state it names, the state after reset unless it names another, and the prefix of the bus
event log stated for it (70_reset_and_hazards.md R302). -/
structure HostProgram where
  lines : List ProgramLine
  start : State := State.reset
  logPrefix : List BusEvent := []
deriving DecidableEq, Repr

/-- The host actions a program stands for (30_encoding.md R113, R114). -/
def HostProgram.events (p : HostProgram) : List HostEvent :=
  programEvents p.start.params (p.lines.map ProgramLine.expand).flatten

/-- The launch of a program: its start state with its accesses pending.  DESIGN CHOICE (log entry 20): the model's record of
the host's reads begins empty, so that the CHECKs read it from the program's first read. -/
def HostProgram.launch (p : HostProgram) : State := { p.start with pending := p.events, hostReadsRev := [] }

/-- A run has ended: the host has made its last access and BUSY = 0 (70_reset_and_hazards.md R303). -/
def State.runEnded (s : State) : Bool := s.pending.isEmpty && !s.busy

/-- The result of a run (70_reset_and_hazards.md R303): the registers in the order of their offsets, the three records, the
tile and dirty RAM entries of the framebuffer, and the bus event log. -/
structure RunResult where
  registers : List Word
  fb : Fb
  disp : Disp
  stk : Stack
  tiles : List Byte
  dirty : List Bool
  busLog : List BusEvent
deriving DecidableEq, Repr

/-- What a state holds of a run's result (70_reset_and_hazards.md R303). -/
def State.runResult (s : State) : RunResult where
  registers := allRegs.map s.readReg
  fb := s.fb
  disp := s.disp
  stk := s.stk
  tiles := (List.range s.fb.ntiles).map s.tile
  dirty := (List.range s.fb.ntiles).map s.isDirty
  busLog := s.busLog

/-- `n` steps; `none` when one of them is refused: such a run has no result (70_reset_and_hazards.md R303). -/
def runSteps : Nat → State → Option State
  | 0, s => some s
  | n + 1, s =>
    match step s with
    | .next t => runSteps n t
    | .fault _ => none
    | .refused _ => none

/-- The most steps an action of the host takes, with the command it may start (log entry 20). -/
def actionSteps : HostAction → Nat
  | .read _ _ => 1
  | .write _ _ _ => 2
  | .wait k => k + 1
  | .reset => 1

/-- The last state of a run: it takes at most the steps of its actions, and a step after the end changes nothing. -/
def HostProgram.finalState (p : HostProgram) : Option State :=
  runSteps (p.events.map fun e => actionSteps e.action).sum p.launch

/-- The result of a run, if it has one (70_reset_and_hazards.md R303). -/
def HostProgram.result (p : HostProgram) : Option RunResult :=
  match p.finalState with
  | some s => if s.runEnded then some s.runResult else none
  | none => none

end Sys2Proof.Machine
end

