-- ==== Sys2Proof/Machine/Panel.lean ====
section
/-! DEFINITION. What can be said of the far end from the bus event log.  None of it is DCUE state, and no command reads it
(10_state.md R42): `panel_state` (41_display.md R161), the reference panel (20_memory.md R86-R90, from general knowledge,
log entry 17) and the wire reading of the log (R73) are functions of the log. -/

namespace Sys2Proof

namespace Machine

open Sys2Proof

/-! ## panel_state -/

/-- The values of `panel_state`; `off` is INITIALIZED / DISPLAY_OFF (41_display.md R161). -/
inductive PanelState where
  | uninitialized
  | off
  | on
  | unknown
deriving DecidableEq, Repr

/-- The table of 41_display.md R161: the state after a completed command with the given status. -/
def panelAfter (p : PanelState) (i : Instr) (code : Status) : PanelState :=
  match i with
  | .dispInit => if code = .ok then .off else .unknown
  | .dispOn v =>
    match p with
    | .off | .on => if code = .ok then (if v then .on else .off) else .unknown
    | .uninitialized | .unknown => p
  | _ => p

/-- One write of a sequence as panel_state sees it: its command byte, if it is a command byte, and whether it returned
OK. -/
structure SentByte where
  command : Option Byte
  delivered : Bool
deriving DecidableEq, Repr

/-- The effect of one sequence, the writes between two stops, on panel_state.  The sequences that matter are those that
begin with 0xAE (DISP_INIT, or DISP_ON with V = 0, which sends that byte alone), 0xAF (DISP_ON with V = 1), 0xC8 and 0xA1
(the flips of DISP_INIT) (41_display.md R161, R164, R166; DEDUCED, log entry 16). -/
def sequenceEffect (p : PanelState) (g : List SentByte) : PanelState :=
  match g with
  | [] => p
  | b :: rest =>
    if b.command = some 0xAE#8 ∨ b.command = some 0xAF#8 ∨ b.command = some 0xC8#8 ∨ b.command = some 0xA1#8 then
      if g.all (·.delivered) then
        if b.command = some 0xAE#8 ∧ rest ≠ [] then .off
        else if b.command = some 0xAE#8 then panelAfter p (.dispOn false) .ok
        else if b.command = some 0xAF#8 then panelAfter p (.dispOn true) .ok
        else p
      else .unknown
    else p

/-- Reading the log for panel_state: the state so far, and the writes since the last stop in order. -/
structure PanelScan where
  state : PanelState
  open_ : List SentByte
deriving DecidableEq, Repr

/-- One event of the log. -/
def scanEvent (p : Params) (c : PanelScan) : BusEvent → PanelScan
  | .write _ [t, b] _ st => { c with open_ := c.open_ ++ [⟨if t = p.typeCmd then some b else none, st == .ok⟩] }
  | .write _ _ _ st => { c with open_ := c.open_ ++ [⟨none, st == .ok⟩] }
  | .stop => ⟨sequenceEffect c.state c.open_, []⟩

/-- The log read from the state after reset (70_reset_and_hazards.md R291). -/
def scanLog (p : Params) (log : List BusEvent) : PanelScan := log.foldl (scanEvent p) ⟨.uninitialized, []⟩

/-- `panel_state`, as a function of the bus event log (41_display.md R161). -/
def panelState (s : State) : PanelState := (scanLog s.params s.busLog).state

/-! ## The far-end controller as a parameter -/

/-- `PanelModel`: the far-end controller's response to one event of the bus event log, an OPEN parameter of the spec
(00_scope.md R6, 93_implementation_defined.md U11): any function on any type `σ` of controller states.  The Boolean says
whether a write whose status is not OK was delivered (20_memory.md R90).  `panelEvent` below is the reference instance. -/
abbrev PanelModel (σ : Type) := Bool → σ → BusEvent → σ

/-- A controller after a list of events, given for each failed write whether it was delivered (20_memory.md R90). -/
def panelModelRun {σ : Type} (M : PanelModel σ) : List (BusEvent × Bool) → σ → σ
  | [], p => p
  | (e, d) :: rest, p => panelModelRun M rest (M d p e)

/-- What a controller that starts in `p` has become by the events of the machine's bus event log, `delivered k` saying
whether event `k` was delivered if its status is not OK (10_state.md R42, 20_memory.md R90). -/
def State.farEnd {σ : Type} (s : State) (M : PanelModel σ) (delivered : Nat → Bool) (p : σ) : σ :=
  panelModelRun M (s.busLog.zipIdx.map fun e => (e.1, delivered e.2)) p

/-! ## The reference panel -/

/-- The command byte a panel has been given whose parameters are not all there yet: the parameters it has, in order, and
how many remain (20_memory.md R86). -/
structure PendingParams where
  command : Byte
  got : List Byte
  remain : Nat
deriving DecidableEq, Repr, Inhabited

/-- Reference panel state (20_memory.md R86, from general knowledge): `gddram[p][c]` is entry `128 * p + c`.  `segRemap`
and `comRemap` are the two display parameters of R87 that R89 gives a meaning: the segment remap 0xA1 and the COM remap
0xC8 have been given. -/
structure Panel where
  gddram : Vector Byte 1024
  amode : BitVec 2
  colStart : BitVec 7
  colEnd : BitVec 7
  colPtr : BitVec 7
  pageStart : BitVec 3
  pageEnd : BitVec 3
  pagePtr : BitVec 3
  on : Bool
  segRemap : Bool
  comRemap : Bool
  pending : Option PendingParams
deriving DecidableEq, Repr, Inhabited

end Machine

/-- FREE: what the reference panel does with a command byte outside the lists of 20_memory.md R87 (log entry 17). -/
opaque Config.panelOther : Machine.Panel → Byte → Machine.Panel

/-- FREE: the column and page pointers of the reference panel after a data byte while the addressing mode is not horizontal:
20_memory.md R88 gives the write in every mode but the advance in horizontal mode only (log entry 17). -/
opaque Config.panelAdvance : Machine.Panel → BitVec 7 × BitVec 3

namespace Machine

/-- The power-on state: the values 20_memory.md R86 gives, and the rest as in `p`.  DESIGN CHOICE (log entry 17): R86 gives
no power-on value for the GDDRAM, the two pointers, the parser state and the two remaps, so they are the argument's. -/
def Panel.powerOn (p : Panel) : Panel :=
  { p with amode := 2, colStart := 0, colEnd := 127, pageStart := 0, pageEnd := 7, on := false }

/-- How many parameter bytes a command byte takes, for the bytes 20_memory.md R87 lists. -/
def panelParams (b : Byte) : Option Nat :=
  if b ∈ [0x81#8, 0x8D#8, 0xA8#8, 0xD5#8, 0xD9#8, 0xDA#8, 0xDB#8, 0x20#8] then some 1
  else if b ∈ [0x21#8, 0x22#8] then some 2
  else if b ∈ [0xA1#8, 0xA4#8, 0xA6#8, 0xAE#8, 0xAF#8, 0xC8#8] then some 0
  else none

/-- The effect of a command with all its parameters (20_memory.md R87; the remaps 0xA1 and 0xC8: R89). -/
def panelCommand (p : Panel) (b : Byte) (args : List Byte) : Panel :=
  match args with
  | [] =>
    if b = 0xAE#8 then { p with on := false }
    else if b = 0xAF#8 then { p with on := true }
    else if b = 0xA1#8 then { p with segRemap := true }
    else if b = 0xC8#8 then { p with comRemap := true }
    else p
  | [a] => if b = 0x20#8 then { p with amode := a.extractLsb' 0 2 } else p
  | a :: e :: _ =>
    if b = 0x21#8 then
      { p with colStart := a.extractLsb' 0 7, colEnd := e.extractLsb' 0 7, colPtr := a.extractLsb' 0 7 }
    else if b = 0x22#8 then
      { p with pageStart := a.extractLsb' 0 3, pageEnd := e.extractLsb' 0 3, pagePtr := a.extractLsb' 0 3 }
    else p

/-- A command byte given to the parser (20_memory.md R87). -/
def panelParse (p : Panel) (b : Byte) : Panel :=
  match p.pending with
  | some q =>
    if q.remain ≤ 1 then panelCommand { p with pending := none } q.command (q.got ++ [b])
    else { p with pending := some ⟨q.command, q.got ++ [b], q.remain - 1⟩ }
  | none =>
    match panelParams b with
    | some 0 => panelCommand p b []
    | some n => { p with pending := some ⟨b, [], n⟩ }
    | none => Config.panelOther p b

/-- The index of the GDDRAM byte under the pointers (20_memory.md R86, R89). -/
def Panel.index (p : Panel) : Nat := 128 * p.pagePtr.toNat + p.colPtr.toNat

/-- Where the pointers are after a data byte: in horizontal mode they advance as 20_memory.md R88 says, in the other modes
they are free values.  PRESUMED (log entry 17): an advance past the end of its width wraps. -/
def Panel.advance (p : Panel) : BitVec 7 × BitVec 3 :=
  if p.amode = 0 then
    if p.colPtr = p.colEnd then (p.colStart, if p.pagePtr = p.pageEnd then p.pageStart else p.pagePtr + 1)
    else (p.colPtr + 1, p.pagePtr)
  else Config.panelAdvance p

/-- A data byte: it is written under the pointers, in every mode, and then the pointers advance (20_memory.md R88).
PRESUMED (log entry 17): nothing else changes in the modes whose advance R88 does not give. -/
def panelData (p : Panel) (b : Byte) : Panel :=
  { p with
    gddram := p.gddram.setIfInBounds p.index b
    colPtr := p.advance.1
    pagePtr := p.advance.2 }

/-- The GDDRAM bit of the pixel at column `c`, row `r`, before the remaps: bit `n` of `gddram[p][c]` drives the pixel at
column `c`, row `8p + n` (20_memory.md R89). -/
def Panel.ramPixel (p : Panel) (c r : Nat) : Bool := (p.gddram[128 * (r / 8) + c]?.getD 0).getLsbD (r % 8)

/-- The bit that drives the pixel at column `c`, row `r` of a panel of `rows` rows, after the remaps: 0xA1 mirrors the
columns and 0xC8 the rows (20_memory.md R89).  DESIGN CHOICE (log entry 17): R89 does not say within what they are mirrored;
the model mirrors within the panel's 128 columns and its `rows` rows. -/
def Panel.pixel (rows : Nat) (p : Panel) (c r : Nat) : Bool :=
  p.ramPixel (if p.segRemap then panelWidth - 1 - c else c) (if p.comRemap then rows - 1 - r else r)

/-- The reference instance of `PanelModel`: one event of the log at a panel with bus address `addr`; `failedArrives` says whether a write whose status is not OK
was delivered (20_memory.md R87, R88, R90).  The DCUE sends only pairs (R77); any other write is taken to do nothing. -/
def panelEvent (ps : Params) (addr : BusAddr) : PanelModel Panel := fun failedArrives p e =>
  match e with
  | .write a [t, b] _ st =>
    if a = addr ∧ (st = .ok ∨ failedArrives = true) then
      if t = ps.typeCmd then panelParse p b else if t = ps.typeData then panelData p b else p
    else p
  | .write _ _ _ _ => p
  | .stop => p

/-- The reference panel after a list of events (20_memory.md R86-R90). -/
def panelRun (ps : Params) (addr : BusAddr) : List (BusEvent × Bool) → Panel → Panel :=
  panelModelRun (panelEvent ps addr)

/-! ## The wire -/

/-- What passes on the two-wire bus (20_memory.md R73, from general knowledge). -/
inductive WireEvent where
  | start
  | repeatedStart
  | address (a : BusAddr)
  | byte (b : Byte)
  | stop
deriving DecidableEq, Repr

/-- The wire reading of the log, `held` saying whether the bus is held before it (20_memory.md R73, log entry 18). -/
def wireReading : Bool → List BusEvent → List WireEvent
  | _, [] => []
  | held, .write a bs h _ :: rest =>
    (if held then .repeatedStart else .start) :: .address a :: bs.map .byte ++
      ((if h then [] else [.stop]) ++ wireReading h rest)
  | _, .stop :: rest => .stop :: wireReading false rest

end Machine

end Sys2Proof
end

