-- ==== Sys2Proof/Safety.lean ====
section
/-! DEFINITION. The words claims about the DCUE are made in: the invariants of 10_state.md R43, what a command leaves
unchanged, which status it may write (60_exceptions.md R261), what it sends on the bus, and pixel sets. -/

namespace Sys2Proof.Machine

open Sys2Proof

/-! ## Invariants between commands (10_state.md R43) -/

/-- The number of dirty bits of the framebuffer's tiles that are 1: what FB.count counts (10_state.md R34). -/
def State.dirtyTotal (s : State) : Nat := (List.range s.fb.ntiles).countP s.isDirty

/-- The FB record: all zero while not allocated, else within its bounds, consistent, and its counter right
(10_state.md R31, R34, R43). -/
def State.fbInv (s : State) : Prop :=
  (s.fb.alloc = false → s.fb = Fb.none) ∧
  (s.fb.alloc = true →
    1 ≤ s.fb.columns ∧ s.fb.columns ≤ maxDim ∧ 1 ≤ s.fb.height ∧ s.fb.height ≤ maxDim ∧
    s.fb.pages = (s.fb.height + 7) / 8 ∧ s.fb.ntiles = s.fb.columns * s.fb.pages ∧
    s.fb.ntiles ≤ s.params.fbMaxTiles ∧ s.fb.count = s.dirtyTotal)

/-- A stack record (10_state.md R36, R43). -/
def stackInv (maxEntries : Nat) (S : Stack) : Prop :=
  S.count ≤ S.cap ∧ S.cap ≤ maxEntries ∧ (S.alloc = true → 1 ≤ S.cap) ∧ (S.alloc = false → S = Stack.none)

/-- The invariants of 10_state.md R43, the parameters' constraints (00_scope.md R6, R7), and the canonical form of the two
RAMs. -/
def State.Inv (s : State) : Prop :=
  s.params.wf ∧ s.fbInv ∧ stackInv s.params.stackMaxEntries s.stk ∧ s.fstk = Stack.none ∧ s.busMode = true ∧
    s.tiles.wf ∧ s.dirty.wf

/-- The bus event log ends between two sequences, and `panelState` is UNINITIALIZED exactly while no DISP_INIT has latched
a configuration: what makes `panelState` a function of the completed commands (41_display.md R161). -/
def State.PanelInv (s : State) : Prop :=
  (scanLog s.params s.busLog).open_ = [] ∧ (s.disp.valid = false ↔ panelState s = .uninitialized)

/-- The launch premises of a program's start state (70_reset_and_hazards.md R302): the invariants of 10_state.md R43, BUSMODE =
1 and FSTK unallocated among them, no command in flight, and the bus event log the prefix stated. -/
def HostProgram.premises (p : HostProgram) : Prop :=
  p.start.Inv ∧ p.start.busy = false ∧ p.start.busLog = p.logPrefix

/-! ## What stays -/

/-- CMD, CFG and ARG0..ARG3 are the same (10_state.md R21, R24, R25). -/
def keepsOperands (s t : State) : Prop :=
  t.cmd = s.cmd ∧ t.cfg = s.cfg ∧ t.arg0 = s.arg0 ∧ t.arg1 = s.arg1 ∧ t.arg2 = s.arg2 ∧ t.arg3 = s.arg3

/-- The parameters, the host's pending actions and the record of its reads are the same. -/
def keepsOutside (s t : State) : Prop :=
  t.params = s.params ∧ t.pending = s.pending ∧ t.hostReadsRev = s.hostReadsRev

/-- BUSMODE, the bus event log and the transport's answers to come are the same: the bus was not touched. -/
def keepsBus (s t : State) : Prop :=
  t.busMode = s.busMode ∧ t.busLogRev = s.busLogRev ∧ t.busAnswers = s.busAnswers

/-- The FB record, every tile byte and every dirty bit are the same. -/
def keepsFramebuffer (s t : State) : Prop := t.fb = s.fb ∧ t.tiles = s.tiles ∧ t.dirty = s.dirty

/-- STK and FSTK are the same. -/
def keepsStacks (s t : State) : Prop := t.stk = s.stk ∧ t.fstk = s.fstk

/-! ## Which status a command may write (60_exceptions.md R261) -/

/-- The five `BUS_*` codes (60_exceptions.md R260). -/
def isBusCode : Status → Bool
  | .busBusy | .busArbitrationLost | .busAddressNack | .busTimeout | .busDataOverrun => true
  | .ok | .invalidArgument | .outOfBounds | .outOfMemory | .notFound => false

/-- The table of 60_exceptions.md R261, row for row. -/
def mayWrite : Instr → Status → Bool
  | .fbCreate, c => c == .ok || c == .invalidArgument || c == .outOfMemory
  | .fbClear, c => c == .ok || c == .invalidArgument
  | .fbSetPixel _, c => c == .ok || c == .invalidArgument || c == .outOfBounds
  | .fbGetPixel, c => c == .ok || c == .invalidArgument || c == .outOfBounds
  | .fbDestroy, c => c == .ok || c == .invalidArgument
  | .dispInit, c => c == .ok || isBusCode c
  | .dispOn _, c => c == .ok || c == .invalidArgument || isBusCode c
  | .dispUpdate, c => c == .ok || c == .invalidArgument || isBusCode c
  | .dispUpdateAll, c => c == .ok || c == .invalidArgument || isBusCode c
  | .dispUpdateDiff, c => c == .ok || c == .invalidArgument || isBusCode c
  | .dispSetColRange, c => c == .ok || c == .invalidArgument || isBusCode c
  | .dispSetPageRange, c => c == .ok || c == .invalidArgument || isBusCode c
  | .drawLine _, c => c == .ok || c == .invalidArgument
  | .drawRect _, c => c == .ok || c == .invalidArgument
  | .drawCircle _, c => c == .ok || c == .invalidArgument
  | .drawEllipseRect _, c => c == .ok || c == .invalidArgument
  | .drawFill _ _, c => c == .ok || c == .invalidArgument || c == .outOfBounds || c == .outOfMemory
  | .stkAlloc, c => c == .ok || c == .invalidArgument || c == .outOfMemory
  | .stkPush, c => c == .ok || c == .invalidArgument || c == .outOfMemory
  | .stkPop, c => c == .ok || c == .invalidArgument || c == .notFound
  | .stkDealloc, c => c == .ok || c == .invalidArgument

/-- The commands of the display family, the only ones that may use the bus (40_framebuffer.md, 42_draw.md R200,
43_fill_stack.md R230). -/
def isDisplay : Instr → Bool
  | .dispInit | .dispOn _ | .dispUpdate | .dispUpdateAll | .dispUpdateDiff | .dispSetColRange | .dispSetPageRange => true
  | _ => false

/-- The commands that begin with `check FB.alloc = 1 else INVALID_ARGUMENT` (40_framebuffer.md R130, 42_draw.md R200,
43_fill_stack.md R232). -/
def needsFramebuffer : Instr → Bool
  | .fbClear | .fbSetPixel _ | .fbGetPixel | .fbDestroy | .drawLine _ | .drawRect _ | .drawCircle _
  | .drawEllipseRect _ | .drawFill _ _ => true
  | _ => false

/-- The commands that begin with `DispReady` (41_display.md R160). -/
def needsDisplay : Instr → Bool
  | .dispOn _ | .dispUpdate | .dispUpdateAll | .dispUpdateDiff | .dispSetColRange | .dispSetPageRange => true
  | _ => false

/-- The update commands, which also need `FbMatches` (41_display.md R160). -/
def isUpdate : Instr → Bool
  | .dispUpdate | .dispUpdateAll | .dispUpdateDiff => true
  | _ => false

/-- The state a command leaves that fails, or does nothing, with status `c`: only STATUS has changed
(00_scope.md R12). -/
def State.onlyStatus (s : State) (c : Status) : State := { s with code := c, busy := false }

/-! ## What is sent on the bus -/

/-- A write that was answered OK inside a wrap (20_memory.md R72, R78). -/
def okWrite (addr : BusAddr) (bytes : List Byte) : BusEvent := .write addr bytes true .ok

/-- The writes of one sequence, up to and including the first that failed, and the status they return
(20_memory.md R74, 60_exceptions.md R264). -/
def SentBy (addr : BusAddr) (writes : List (List Byte)) (evs : List BusEvent) (st : BusStatus) : Prop :=
  (st = .ok ∧ evs = writes.map (okWrite addr)) ∨
  (st ≠ .ok ∧ ∃ sent w rest, writes = sent ++ w :: rest ∧
    evs = sent.map (okWrite addr) ++ [.write addr w true st])

/-- Sequences in order, each followed by its one stop, up to the first that failed (20_memory.md R74, 41_display.md
R164). -/
def SentSequences (addr : BusAddr) : List (List (List Byte)) → List BusEvent → BusStatus → Prop
  | [], evs, st => evs = [] ∧ st = .ok
  | g :: gs, evs, st =>
    ∃ e st', SentBy addr g e st' ∧
      ((st' ≠ .ok ∧ st = st' ∧ evs = e ++ [.stop]) ∨
       (st' = .ok ∧ ∃ rest, SentSequences addr gs rest st ∧ evs = e ++ .stop :: rest))

/-- Each byte as the payload of one `Cmd` (20_memory.md R75, R77). -/
def cmdWrites (p : Params) (bs : List Byte) : List (List Byte) := bs.map fun b => [p.typeCmd, b]

/-- Each byte as the payload of one `Data` (20_memory.md R76). -/
def dataWrites (p : Params) (bs : List Byte) : List (List Byte) := bs.map fun b => [p.typeData, b]

/-- The 25 payloads of DISP_INIT: the table of 41_display.md R165, row by row. -/
def initPayloads (geom cpsrc : Bool) : List Byte :=
  match geom, cpsrc with
  | false, false =>
    [0xAE, 0x8D, 0x10, 0xA8, 0x1F, 0xDA, 0x02, 0xD5, 0x80, 0xD9, 0x22, 0xDB, 0x20, 0x20, 0x00, 0x22, 0x00, 0x03, 0x21,
      0x00, 0x7F, 0xA4, 0xA6, 0x81, 0x9F]
  | false, true =>
    [0xAE, 0x8D, 0x14, 0xA8, 0x1F, 0xDA, 0x02, 0xD5, 0x80, 0xD9, 0xF1, 0xDB, 0x20, 0x20, 0x00, 0x22, 0x00, 0x03, 0x21,
      0x00, 0x7F, 0xA4, 0xA6, 0x81, 0xCF]
  | true, false =>
    [0xAE, 0x8D, 0x10, 0xA8, 0x3F, 0xDA, 0x12, 0xD5, 0x80, 0xD9, 0x22, 0xDB, 0x20, 0x20, 0x00, 0x22, 0x00, 0x07, 0x21,
      0x00, 0x7F, 0xA4, 0xA6, 0x81, 0x9F]
  | true, true =>
    [0xAE, 0x8D, 0x14, 0xA8, 0x3F, 0xDA, 0x12, 0xD5, 0x80, 0xD9, 0xF1, 0xDB, 0x20, 0x20, 0x00, 0x22, 0x00, 0x07, 0x21,
      0x00, 0x7F, 0xA4, 0xA6, 0x81, 0xCF]

/-- The sequences DISP_INIT sends: the 25 payloads, then 0xC8 when FLIPV = 1, then 0xA1 when FLIPH = 1, each flip its own
sequence (41_display.md R165). -/
def initSequences (p : Params) (c : DispConf) : List (List (List Byte)) :=
  [cmdWrites p (initPayloads c.geom c.cpsrc)] ++
    ((if c.flipv then [cmdWrites p [0xC8#8]] else []) ++ (if c.fliph then [cmdWrites p [0xA1#8]] else []))

/-- The tile bytes of the framebuffer, page-major and column-minor (20_memory.md R80, 41_display.md R169). -/
def State.frame (s : State) : List Byte := (List.range s.fb.ntiles).map s.tile

/-- The writes of a full update (41_display.md R169). -/
def fullWrites (s : State) : List (List Byte) :=
  cmdWrites s.params [0x22#8, 0#8, BitVec.ofNat 8 (s.fb.pages - 1), 0x21#8, 0#8, 0x7F#8] ++
    dataWrites s.params s.frame

/-- The indices of the dirty tiles in the order of the walk (41_display.md R170). -/
def State.dirtyTiles (s : State) : List Nat := (List.range s.fb.ntiles).filter s.isDirty

/-- The writes for one dirty tile: the address pair unless it follows the tile sent last, then its byte
(41_display.md R170). -/
def tileWrites (s : State) (prev : Option Nat) (i : Nat) : List (List Byte) :=
  (if prev = some (i - 1) ∧ 0 < i then []
   else cmdWrites s.params
     [0x22#8, BitVec.ofNat 8 (i / 128), BitVec.ofNat 8 (s.fb.pages - 1), 0x21#8, BitVec.ofNat 8 (i % 128), 0x7F#8]) ++
    [[s.params.typeData, s.tile i]]

/-- The writes of a differential update of the tiles listed, `prev` the tile sent before them (41_display.md R170). -/
def diffWrites (s : State) : Option Nat → List Nat → List (List Byte)
  | _, [] => []
  | prev, i :: rest => tileWrites s prev i ++ diffWrites s (some i) rest

/-- The number of maximal runs of consecutive dirty tile indices: the dirty tiles that do not follow a dirty tile
(41_display.md R174). -/
def State.dirtyRuns (s : State) : Nat := s.dirtyTiles.countP fun i => i == 0 || !s.isDirty (i - 1)

/-- How many data writes of the list were answered OK. -/
def okDataWrites (p : Params) (evs : List BusEvent) : Nat :=
  evs.countP fun e =>
    match e with
    | .write _ (t :: _) _ st => t == p.typeData && st == .ok
    | _ => false

/-! ## Pixels -/

/-- The points a rasterizer command plots (42_draw.md R202, R203, R205, R207). -/
def rasterPoints (s : State) : Instr → Option (List Pt × Bool)
  | .drawLine v => some (linePts (s.s16 0) (s.s16 1) (s.s16 2) (s.s16 3), v)
  | .drawRect v => some (rectPts (s.s16 0) (s.s16 1) (s.s16 2) (s.s16 3), v)
  | .drawCircle v => some (circlePts (s.s16 0) (s.s16 1) (s.u16 2), v)
  | .drawEllipseRect v => some (ellipsePts (s.s16 0) (s.s16 1) (s.s16 2) (s.s16 3), v)
  | _ => none

/-- Two pixels are 4-adjacent (43_fill_stack.md R233). -/
def adjacent (p q : Pt) : Prop :=
  (p.1 = q.1 ∧ (q.2 = p.2 + 1 ∨ p.2 = q.2 + 1)) ∨ (p.2 = q.2 ∧ (q.1 = p.1 + 1 ∨ p.1 = q.1 + 1))

/-- The pixel is in the 4-connected component of in-bounds pixels of value `m` that contains the seed
(43_fill_stack.md R233). -/
inductive Reaches (s : State) (m : Bool) (seed : Pt) : Pt → Prop
  | seed : pixelGet s seed.1 seed.2 = some m → Reaches s m seed seed
  | next (p q : Pt) : Reaches s m seed p → adjacent p q → pixelGet s q.1 q.2 = some m → Reaches s m seed q

/-! ## Sequences of stack commands (43_fill_stack.md R242) -/

/-- STK_PUSH of each value in turn, each finishing OK, leads from `s` to `t`. -/
def pushesOk : List Half → State → State → Prop
  | [], s, t => s = t
  | v :: vs, s, t => ∃ u, exec .stkPush { s with arg0 := v } = .next u ∧ u.code = .ok ∧ pushesOk vs u t

/-- STK_POP once for each value, each finishing OK with that value in RESULT, leads from `s` to `t`. -/
def popsGive : List Half → State → State → Prop
  | [], s, t => s = t
  | v :: vs, s, t => ∃ u, exec .stkPop s = .next u ∧ u.code = .ok ∧ u.result = v.zeroExtend 32 ∧ popsGive vs u t

end Sys2Proof.Machine
end

