-- ==== Sys2Proof/Certificates/Slice0/Obligations.lean ====
section
/-! DEFINITION. The statements for the provers, from the numbered rules of spec/.  OBLIGATIONS.json gives each its title,
its rules and its tier; Sys2Proof/Tests/Slice0.lean holds a witness for the hypotheses of each. -/

open Sys2Proof Sys2Proof.Machine

/-! ## Encoding -/

/-- 30_encoding.md R106: words written out from the opcode map decode to their commands, one or more of each family, and
words that match no row do not decode. -/
def Obligations.SpecWordsDecode : Prop :=
  decode 0x00000001#32 = .ok .fbCreate ∧ decode 0x00000103#32 = .ok (.fbSetPixel true) ∧
  decode 0x00000010#32 = .ok .dispInit ∧ decode 0x00000111#32 = .ok (.dispOn true) ∧
  decode 0x00000016#32 = .ok .dispSetPageRange ∧ decode 0x00000122#32 = .ok (.drawCircle true) ∧
  decode 0x00000124#32 = .ok (.drawFill true false) ∧ decode 0x00000224#32 = .ok (.drawFill false true) ∧
  decode 0x00000032#32 = .ok .stkPop ∧ decode 0x00000000#32 = .error .reservedOpcode ∧
  decode 0x00000430#32 = .error .reservedBitsSet ∧ decode 0x00000130#32 = .error .valueBitNotRead ∧
  decode 0x00000230#32 = .error .matchBitNotRead

/-- 30_encoding.md R100, R106, R107: decoding and encoding agree on every word and every command. -/
def Obligations.DecodeAndEncodeAgree : Prop :=
  ∀ (w : Word) (i : Instr), decode w = .ok i ↔ w = encode i

/-- 30_encoding.md R108: the words that encode no command are exactly those with a reserved OP, with RES not 0, or with V
or M set where the command does not read it. -/
def Obligations.IllegalWordsAreThoseOfTheRule : Prop :=
  ∀ w : Word,
    (∃ e, decode w = .error e) ↔
      ((w.extractLsb' 0 8).toNat ∈ [0x00] ++ List.range' 0x06 10 ++ List.range' 0x17 9 ++ List.range' 0x25 11 ++
          List.range' 0x34 204 ∨
        w.extractLsb' 10 22 ≠ 0 ∨
        (w.getLsbD 8 = true ∧ (w.extractLsb' 0 8).toNat ∉ [0x03, 0x11, 0x20, 0x21, 0x22, 0x23, 0x24]) ∨
        (w.getLsbD 9 = true ∧ (w.extractLsb' 0 8).toNat ≠ 0x24))

/-! ## The step and the host port -/

/-- 30_encoding.md R107: a step runs the decoded command, when a command is in flight and no early host action comes
first (the model's interleaving, log entry 1); and so it does when the command's word is put in flight (log entry 2). -/
def Obligations.StepRunsTheDecodedCommand : Prop :=
  (∀ (s : State) (i : Instr), s.busy = true → (∀ e rest, s.pending = e :: rest → e.early = false) →
    decode s.cmd = .ok i → step s = exec i s) ∧
  (∀ (s : State) (i : Instr),
    step (s.withFetchWord 32 (encode i).toNat) = exec i (s.withFetchWord 32 (encode i).toNat))

/-- 30_encoding.md R107: an illegal word finishes INVALID_ARGUMENT with no other state change and no bus event
(when the engine steps: log entry 1). -/
def Obligations.IllegalWordOnlySetsStatus : Prop :=
  ∀ (s : State) (e : DecodeError), s.busy = true → (∀ a rest, s.pending = a :: rest → a.early = false) →
    decode s.cmd = .error e → step s = .next { s with code := .invalidArgument, busy := false }

/-- 10_state.md R21: a CMD write while BUSY = 0 stores the word, sets BUSY and starts the command, a write while BUSY = 1
is ignored, and a read returns the word stored.  That the accepted write is one step and the command the next, unless an
early action stands first, and that an access while BUSY = 1 is one marked early, is the model's choice (log entry 1). -/
def Obligations.CommandWriteStartsTheCommand : Prop :=
  (∀ (s : State) (w : Word) (early : Bool) (rest : List HostEvent), s.busy = false →
    s.pending = ⟨.write (regOffset .cmd) 4 w, early⟩ :: rest →
    step s = .next { s with pending := rest, cmd := w, busy := true } ∧
    ∀ i, decode w = .ok i → (∀ e r, rest = e :: r → e.early = false) →
      step { s with pending := rest, cmd := w, busy := true } =
        exec i { s with pending := rest, cmd := w, busy := true }) ∧
  (∀ (s : State) (w : Word) (rest : List HostEvent), s.busy = true →
    s.pending = ⟨.write (regOffset .cmd) 4 w, true⟩ :: rest → step s = .next { s with pending := rest }) ∧
  (∀ s : State, s.readWord (regOffset .cmd) = s.cmd) ∧
  State.reset.cmd = 0 ∧ State.reset.busy = false ∧ (∃ e, decode 0x00000000#32 = .error e)

/-- 60_exceptions.md R274: while a command runs a host write is ignored, STATUS reads BUSY = 1 with the code of the
previous command, and a read of anything else returns some word and changes nothing but the count of free values drawn
(the model's own).  That an access comes early, and the free value, are the model's choice (log entries 1 and 9). -/
def Obligations.HostActionsWhileACommandRuns : Prop :=
  (∀ (s : State) (off : Fin 0x30000) (v : Word) (rest : List HostEvent), s.busy = true → off.val % 4 = 0 →
    s.pending = ⟨.write off 4 v, true⟩ :: rest → step s = .next { s with pending := rest }) ∧
  (∀ (s : State) (rest : List HostEvent), s.busy = true →
    s.pending = ⟨.read (regOffset .status) 4, true⟩ :: rest →
    ∃ w : Word, w.getLsbD 31 = true ∧ w.extractLsb' 0 8 = statusByte s.code ∧
      step s = .next { s with pending := rest, hostReadsRev := ⟨regOffset .status, w⟩ :: s.hostReadsRev }) ∧
  (∀ (s : State) (off : Fin 0x30000) (rest : List HostEvent), s.busy = true → off.val % 4 = 0 →
    off ≠ regOffset .status → s.pending = ⟨.read off 4, true⟩ :: rest →
    ∃ w : Word,
      step s = .next { s with
        pending := rest, hostReadsRev := ⟨off, w⟩ :: s.hostReadsRev, draws := s.draws + 1 })

/-- 20_memory.md R60: a host access that is not an aligned 32-bit access is refused. -/
def Obligations.OnlyAlignedWordAccessesAreDefined : Prop :=
  ∀ (s : State) (e : HostEvent) (rest : List HostEvent) (off : Fin 0x30000) (width : Nat) (v : Word),
    s.pending = e :: rest → (s.busy = false ∨ e.early = true) →
    (e.action = .read off width ∨ e.action = .write off width v) →
    (width ≠ 4 ∨ off.val % 4 ≠ 0) → step s = .refused .hostAccessNotAlignedWord

/-- 20_memory.md R65: a host read while BUSY = 0 has no side effect; all that changes is the record of what the host has
read. -/
def Obligations.HostReadsHaveNoSideEffect : Prop :=
  ∀ (s : State) (off : Fin 0x30000) (early : Bool) (rest : List HostEvent), s.busy = false → off.val % 4 = 0 →
    s.pending = ⟨.read off 4, early⟩ :: rest →
    step s = .next { s with pending := rest, hostReadsRev := ⟨off, s.readWord off⟩ :: s.hostReadsRev }

/-- 20_memory.md R62: the TILE and DIRTY windows. -/
def Obligations.WindowReadsShowTilesAndDirtyBits : Prop :=
  ∀ (s : State) (i : Fin 16384),
    s.readWord (tileOffset i) =
      (if s.fb.alloc = true ∧ i.val < s.fb.ntiles then (s.tiles.read i.val).zeroExtend 32 else 0) ∧
    s.readWord (dirtyOffset i) =
      (if s.fb.alloc = true ∧ i.val < s.fb.ntiles then (s.dirty.read i.val).zeroExtend 32 else 0)

/-- 20_memory.md R63: writes to a read-only register, to a window or to an unmapped offset have no effect; an unmapped
offset and every write-ignored bit read 0. -/
def Obligations.IgnoredWritesAndUnmappedReads : Prop :=
  (∀ (s : State) (off : Fin 0x30000) (v : Word) (early : Bool) (rest : List HostEvent), s.busy = false →
    off.val % 4 = 0 → off.val ∉ [0x000, 0x00C, 0x010, 0x014, 0x018, 0x01C] →
    s.pending = ⟨.write off 4 v, early⟩ :: rest → step s = .next { s with pending := rest }) ∧
  (∀ (s : State) (off : Fin 0x30000), off.val % 4 = 0 → 0x00038 ≤ off.val → off.val < 0x10000 →
    s.readWord off = 0) ∧
  (∀ s : State,
    s.readWord (regOffset .status) &&& 0x7FFFFF00#32 = 0 ∧ s.readWord (regOffset .cfg) &&& 0xFFFFF080#32 = 0 ∧
    (∀ r, r ∈ [Reg.arg0, Reg.arg1, Reg.arg2, Reg.arg3] → s.readWord (regOffset r) &&& 0xFFFF0000#32 = 0) ∧
    s.readWord (regOffset .fbPages) &&& 0x7FFF0000#32 = 0 ∧ s.readWord (regOffset .dispCfg) &&& 0x7FFFF080#32 = 0)

/-- 10_state.md R24: a host write of CFG stores bits 11:8 and 6:0, each field where the layout has it, and CFG then reads
those bits. -/
def Obligations.ConfigWriteStoresItsFields : Prop :=
  ∀ (s : State) (v : Word) (early : Bool) (rest : List HostEvent), s.busy = false →
    s.pending = ⟨.write (regOffset .cfg) 4 v, early⟩ :: rest →
    step s = .next { s with
      pending := rest
      cfg := ⟨v.extractLsb' 0 7, v.getLsbD 8, v.getLsbD 9, v.getLsbD 10, v.getLsbD 11⟩ } ∧
    ∀ t, step s = .next t → t.readWord (regOffset .cfg) = v &&& 0x00000F7F#32

/-- 10_state.md R25: a host write of ARGn stores bits 15:0 and nothing else changes; ARGn then reads those bits. -/
def Obligations.ArgumentWriteStoresSixteenBits : Prop :=
  ∀ (s : State) (n : Fin 4) (off : Fin 0x30000) (v : Word) (early : Bool) (rest : List HostEvent), s.busy = false →
    off.val = 0x010 + 4 * n.val → s.pending = ⟨.write off 4 v, early⟩ :: rest →
    ∃ t, step s = .next t ∧ t.arg n = v.extractLsb' 0 16 ∧ (∀ m, m ≠ n → t.arg m = s.arg m) ∧
      t.readWord off = v &&& 0x0000FFFF#32 ∧
      t = { s with pending := rest, arg0 := t.arg0, arg1 := t.arg1, arg2 := t.arg2, arg3 := t.arg3 }

/-- 70_reset_and_hazards.md R291, 41_display.md R161: the state after reset.  That the parameters are in the state is log entry
3, and the bound `Params.wf` puts on STACK_MAX_ENTRIES log entry 10; the RAM contents are free values (log entry 5) and nothing is said of them. -/
def Obligations.ResetValues : Prop :=
  (∀ off : Fin 0x30000, State.reset.readWord off = 0) ∧
  State.reset.code = .ok ∧ State.reset.busy = false ∧ State.reset.result = 0 ∧ State.reset.cmd = 0 ∧
  State.reset.cfg = ⟨0, false, false, false, false⟩ ∧ (∀ n, State.reset.arg n = 0) ∧
  State.reset.disp = ⟨false, ⟨0, false, false, false, false⟩⟩ ∧ State.reset.fb = ⟨false, 0, 0, 0, 0, 0⟩ ∧
  State.reset.stk = ⟨false, 0, []⟩ ∧ State.reset.fstk = ⟨false, 0, []⟩ ∧ State.reset.busMode = true ∧
  State.reset.busLog = [] ∧ panelState State.reset = .uninitialized ∧
  State.reset.params.thresh32 = 147 ∧ State.reset.params.thresh64 = 294 ∧ State.reset.params.wf

/-- 70_reset_and_hazards.md R290, R292: the reset input gives the reset values and causes no bus event; while BUSY = 1 it
is refused.  That the parameters, the inputs and the record of reads stay is the model's choice (log entry 13). -/
def Obligations.ResetInputGivesTheResetState : Prop :=
  (∀ (s : State) (early : Bool) (rest : List HostEvent), s.busy = false → s.pending = ⟨.reset, early⟩ :: rest →
    ∃ t, step s = .next t ∧ (∀ off : Fin 0x30000, t.readWord off = 0) ∧ t.busy = false ∧ t.code = .ok ∧
      t.result = 0 ∧ t.cmd = 0 ∧ t.cfg = State.reset.cfg ∧ (∀ n, t.arg n = 0) ∧ t.disp = State.reset.disp ∧
      t.fb = Fb.none ∧ t.stk = Stack.none ∧ t.fstk = Stack.none ∧ t.busMode = true ∧ t.busLog = [] ∧
      t.params = s.params ∧ t.pending = rest ∧ t.busAnswers = s.busAnswers ∧ t.hostReadsRev = s.hostReadsRev) ∧
  (∀ (s : State) (rest : List HostEvent), s.busy = true → s.pending = ⟨.reset, true⟩ :: rest →
    step s = .refused .resetWhileBusy)

/-! ## The whole machine -/

/-- 10_state.md R43, 41_display.md R161: the invariants hold right after reset.  `State.Inv` includes the bound
on STACK_MAX_ENTRIES that is the model's (log entry 10), and `State.PanelInv` rests on the model's reading of the bus log (log
entry 16). -/
def Obligations.InvariantsHoldAtReset : Prop := State.reset.Inv ∧ State.reset.PanelInv

/-- 10_state.md R34, R43: every step keeps the invariants: the dirty-tile counter is the number of dirty tiles, the
framebuffer record is consistent, the stacks are within their limits, FSTK is unallocated and BUSMODE is 1 between
commands, and the RAMs are in canonical form.  `State.Inv` includes the bound on STACK_MAX_ENTRIES that is the model's (log
entry 10). -/
def Obligations.EveryStepKeepsTheInvariants : Prop :=
  ∀ s t : State, s.Inv → step s = .next t → t.Inv

/-- 60_exceptions.md R261, R262, R265, 10_state.md R25: every command completes, whatever the state, with BUSY cleared and
a status of its row of the table; it writes no operand register, and nothing of the outside world. -/
def Obligations.EveryCommandFinishesWithAStatusOfItsRow : Prop :=
  ∀ (i : Instr) (s : State), ∃ t, exec i s = .next t ∧ t.busy = false ∧ mayWrite i t.code = true ∧
    keepsOperands s t ∧ keepsOutside s t

/-- 60_exceptions.md R265, 70_reset_and_hazards.md R290: a step is refused exactly for a host access that is not an aligned
32-bit access or a reset while a command runs; it never faults. -/
def Obligations.StepsAreRefusedOnlyForTheHost : Prop :=
  ∀ s : State,
    ((∃ t, step s = .next t) ↔
      ¬ ∃ e rest, s.pending = e :: rest ∧ (s.busy = false ∨ e.early = true) ∧
        ((∃ off width, e.action = .read off width ∧ (width ≠ 4 ∨ off.val % 4 ≠ 0)) ∨
         (∃ off width v, e.action = .write off width v ∧ (width ≠ 4 ∨ off.val % 4 ≠ 0)) ∨
         (e.action = .reset ∧ s.busy = true))) ∧
    (∀ f, step s ≠ .fault f)

/-- 10_state.md R23: RESULT is written only by FB_GET_PIXEL and STK_POP, and only when they finish OK; host writes to it are
ignored; it is 0 after reset. -/
def Obligations.OnlyGetPixelAndPopWriteResult : Prop :=
  (∀ (i : Instr) (s t : State), exec i s = .next t → t.result ≠ s.result →
    (i = .fbGetPixel ∨ i = .stkPop) ∧ t.code = .ok) ∧
  (∀ (s t : State) (off : Fin 0x30000) (v : Word) (early : Bool) (rest : List HostEvent),
    (s.busy = false ∨ early = true) → s.pending = ⟨.write off 4 v, early⟩ :: rest → step s = .next t →
    t.result = s.result) ∧
  State.reset.result = 0

/-- 10_state.md R30: DISP is written only by DISP_INIT, which latches CFG into it. -/
def Obligations.OnlyDispInitWritesTheConfiguration : Prop :=
  ∀ (i : Instr) (s t : State), exec i s = .next t →
    (i = .dispInit → t.disp = ⟨true, s.cfg⟩) ∧ (i ≠ .dispInit → t.disp = s.disp)

/-- 40_framebuffer.md, 42_draw.md R200, 43_fill_stack.md R230: the commands outside the display family do not touch the bus,
and the commands outside the stack family do not touch the host stack; 41_display.md R164, R166-R173: DISP_INIT leaves the
framebuffer, and a display command the tile bytes and the stacks, as they were. -/
def Obligations.FamiliesKeepToTheirOwnState : Prop :=
  ∀ (i : Instr) (s t : State), exec i s = .next t →
    (isDisplay i = false → keepsBus s t) ∧
    (i ∉ [.stkAlloc, .stkPush, .stkPop, .stkDealloc] → t.stk = s.stk) ∧
    (i ∈ [.stkAlloc, .stkPush, .stkPop, .stkDealloc] ∨ i = .dispInit → keepsFramebuffer s t) ∧
    (isDisplay i = true → t.tiles = s.tiles ∧ t.stk = s.stk ∧ t.fstk = s.fstk)

/-- 20_memory.md R74, R77, R78, 10_state.md R38: a command leaves BUSMODE as it found it; started with BUSMODE = 1, it sends
only two-byte writes to the configured address, each held, and if it sent anything its last event is a stop. -/
def Obligations.SequencesAreHeldAndReleased : Prop :=
  ∀ (i : Instr) (s t : State), exec i s = .next t →
    t.busMode = s.busMode ∧
    (s.busMode = true → ∃ evs, t.busLog = s.busLog ++ evs ∧
      (∀ a bytes held st, BusEvent.write a bytes held st ∈ evs →
        held = true ∧ a = t.disp.conf.addr ∧ ∃ b, bytes = [s.params.typeCmd, b] ∨ bytes = [s.params.typeData, b]) ∧
      (evs ≠ [] → evs.getLast? = some .stop))

/-- 40_framebuffer.md R130, 42_draw.md R200: without a framebuffer every command that needs one finishes INVALID_ARGUMENT
and changes nothing but STATUS. -/
def Obligations.CommandsNeedAFramebuffer : Prop :=
  ∀ (i : Instr) (s : State), needsFramebuffer i = true → s.fb.alloc = false →
    exec i s = .next { s with code := .invalidArgument, busy := false }

/-! ## Framebuffer commands -/

/-- 40_framebuffer.md R133: FB_CREATE.  The tile bytes are free values (log entry 5): nothing is said of
them. -/
def Obligations.FbCreateAllocatesTheFramebuffer : Prop :=
  decode 0x00000001#32 = .ok .fbCreate ∧
  ∀ (s : State) (w h : Nat), w = s.arg0.toNat → h = s.arg1.toNat →
    (s.fb.alloc = true → exec .fbCreate s = .next { s with code := .invalidArgument, busy := false }) ∧
    (s.fb.alloc = false → ¬ (1 ≤ w ∧ w ≤ 32767 ∧ 1 ≤ h ∧ h ≤ 32767) →
      exec .fbCreate s = .next { s with code := .invalidArgument, busy := false }) ∧
    (s.fb.alloc = false → 1 ≤ w → w ≤ 32767 → 1 ≤ h → h ≤ 32767 → s.params.fbMaxTiles < w * ((h + 7) / 8) →
      exec .fbCreate s = .next { s with code := .outOfMemory, busy := false }) ∧
    (s.fb.alloc = false → 1 ≤ w → w ≤ 32767 → 1 ≤ h → h ≤ 32767 → w * ((h + 7) / 8) ≤ s.params.fbMaxTiles →
      ∃ t, exec .fbCreate s = .next t ∧ t.code = .ok ∧ t.busy = false ∧
        t.fb = ⟨true, w, h, (h + 7) / 8, w * ((h + 7) / 8), 0⟩ ∧
        (∀ i, i < w * ((h + 7) / 8) → t.isDirty i = false) ∧
        t.result = s.result ∧ t.disp = s.disp ∧ keepsOperands s t ∧ keepsBus s t ∧ keepsStacks s t ∧
        keepsOutside s t)

/-- 40_framebuffer.md R134: FB_CLEAR. -/
def Obligations.FbClearZeroesAndDirtiesEveryTile : Prop :=
  decode 0x00000002#32 = .ok .fbClear ∧
  ∀ s : State,
    (s.fb.alloc = false → exec .fbClear s = .next { s with code := .invalidArgument, busy := false }) ∧
    (s.fb.alloc = true → ∃ t, exec .fbClear s = .next t ∧ t.code = .ok ∧ t.busy = false ∧
      (∀ i, i < s.fb.ntiles → t.tile i = 0 ∧ t.isDirty i = true) ∧
      t.fb = { s.fb with count := s.fb.ntiles } ∧
      t.result = s.result ∧ t.disp = s.disp ∧ t.draws = s.draws ∧ keepsOperands s t ∧ keepsBus s t ∧
      keepsStacks s t ∧ keepsOutside s t)

/-- 40_framebuffer.md R131, R132, R135: FB_SET_PIXEL, with its frame: every other pixel, every other tile byte, every other
dirty bit and every register but STATUS stays. -/
def Obligations.FbSetPixelWritesOnePixel : Prop :=
  decode 0x00000003#32 = .ok (.fbSetPixel false) ∧ decode 0x00000103#32 = .ok (.fbSetPixel true) ∧
  ∀ (s : State) (v : Bool) (x y : Int), x = s.arg0.toInt → y = s.arg1.toInt →
    (s.fb.alloc = false → exec (.fbSetPixel v) s = .next { s with code := .invalidArgument, busy := false }) ∧
    (s.fb.alloc = true → ¬ (0 ≤ x ∧ x < s.fb.columns ∧ 0 ≤ y ∧ y < s.fb.height) →
      exec (.fbSetPixel v) s = .next { s with code := .outOfBounds, busy := false }) ∧
    (s.fb.alloc = true → 0 ≤ x → x < s.fb.columns → 0 ≤ y → y < s.fb.height →
      ∃ (t : State) (i : Nat), i = y.toNat / 8 * s.fb.columns + x.toNat ∧ exec (.fbSetPixel v) s = .next t ∧
        t.code = .ok ∧ t.busy = false ∧
        (∀ n, (t.tile i).getLsbD n = if n = y.toNat % 8 then v else (s.tile i).getLsbD n) ∧
        (∀ j, j ≠ i → t.tile j = s.tile j ∧ t.isDirty j = s.isDirty j) ∧
        ((s.tile i).getLsbD (y.toNat % 8) = v → t = { s with code := .ok, busy := false }) ∧
        ((s.tile i).getLsbD (y.toNat % 8) ≠ v → t.isDirty i = true ∧
          t.fb = { s.fb with count := s.fb.count + if s.isDirty i then 0 else 1 }) ∧
        t.result = s.result ∧ t.disp = s.disp ∧ t.draws = s.draws ∧ keepsOperands s t ∧ keepsBus s t ∧
        keepsStacks s t ∧ keepsOutside s t)

/-- 40_framebuffer.md R138: the pixel just written reads back as written, whatever it was, and every other pixel reads as
before. -/
def Obligations.PixelReadsBackAsWritten : Prop :=
  ∀ (s t : State) (v : Bool), s.fb.alloc = true → pixelGet s (s.s16 0) (s.s16 1) ≠ none →
    exec (.fbSetPixel v) s = .next t →
    exec .fbGetPixel t = .next { t with result := if v then 1 else 0 } ∧
    ∀ x y, (x, y) ≠ (s.s16 0, s.s16 1) → pixelGet t x y = pixelGet s x y

/-- 40_framebuffer.md R136: FB_GET_PIXEL. -/
def Obligations.FbGetPixelReturnsThePixel : Prop :=
  decode 0x00000004#32 = .ok .fbGetPixel ∧
  ∀ (s : State) (x y : Int), x = s.arg0.toInt → y = s.arg1.toInt →
    (s.fb.alloc = false → exec .fbGetPixel s = .next { s with code := .invalidArgument, busy := false }) ∧
    (s.fb.alloc = true → ¬ (0 ≤ x ∧ x < s.fb.columns ∧ 0 ≤ y ∧ y < s.fb.height) →
      exec .fbGetPixel s = .next { s with code := .outOfBounds, busy := false }) ∧
    (s.fb.alloc = true → 0 ≤ x → x < s.fb.columns → 0 ≤ y → y < s.fb.height →
      exec .fbGetPixel s = .next { s with
        result := if (s.tiles.read (y.toNat / 8 * s.fb.columns + x.toNat)).getLsbD (y.toNat % 8) then 1 else 0
        code := .ok
        busy := false })

/-- 40_framebuffer.md R137: FB_DESTROY; afterwards the windows read 0 and every command that needs a framebuffer fails.
The RAM contents are free values (log entry 5): nothing is said of them. -/
def Obligations.FbDestroyReleasesTheFramebuffer : Prop :=
  decode 0x00000005#32 = .ok .fbDestroy ∧
  ∀ s : State,
    (s.fb.alloc = false → exec .fbDestroy s = .next { s with code := .invalidArgument, busy := false }) ∧
    (s.fb.alloc = true → ∃ t, exec .fbDestroy s = .next t ∧ t.code = .ok ∧ t.busy = false ∧
      t.fb = ⟨false, 0, 0, 0, 0, 0⟩ ∧
      (∀ i : Fin 16384, t.readWord (tileOffset i) = 0 ∧ t.readWord (dirtyOffset i) = 0) ∧
      t.readWord (regOffset .fbPages) = 0 ∧
      (∀ i, needsFramebuffer i = true → exec i t = .next { t with code := .invalidArgument }) ∧
      t.result = s.result ∧ t.disp = s.disp ∧ keepsOperands s t ∧ keepsBus s t ∧ keepsStacks s t ∧
      keepsOutside s t)

/-! ## Display controller commands -/

/-- 41_display.md R160: without a configuration, or for an update without a framebuffer of the display's geometry, the
command finishes INVALID_ARGUMENT with no bus event. -/
def Obligations.DisplayCommandsNeedAConfiguration : Prop :=
  ∀ (i : Instr) (s : State),
    (needsDisplay i = true → s.disp.valid = false →
      exec i s = .next { s with code := .invalidArgument, busy := false }) ∧
    (isUpdate i = true →
      ¬ (s.fb.alloc = true ∧ s.fb.columns = 128 ∧ s.fb.height = if s.disp.conf.geom then 64 else 32) →
      exec i s = .next { s with code := .invalidArgument, busy := false })

/-- 41_display.md R164, R165: DISP_INIT latches CFG, sends the 25 payloads of its configuration in one sequence and each
flip in its own, up to the first write that fails, and reports that write's status. -/
def Obligations.DispInitSendsItsSequences : Prop :=
  decode 0x00000010#32 = .ok .dispInit ∧
  ∀ s : State, s.busMode = true →
    ∃ t evs st, exec .dispInit s = .next t ∧
      SentSequences s.cfg.addr (initSequences s.params s.cfg) evs st ∧ t.busLog = s.busLog ++ evs ∧
      t.code = busCode st ∧ t.busy = false ∧ t.disp = ⟨true, s.cfg⟩ ∧ t.busMode = true ∧
      t.result = s.result ∧ t.draws = s.draws ∧ keepsOperands s t ∧ keepsFramebuffer s t ∧ keepsStacks s t ∧
      keepsOutside s t

/-- 41_display.md R166: DISP_ON sends one byte in a sequence of its own. -/
def Obligations.DispOnSendsOneByte : Prop :=
  decode 0x00000011#32 = .ok (.dispOn false) ∧ decode 0x00000111#32 = .ok (.dispOn true) ∧
  ∀ (s : State) (v : Bool),
    (s.disp.valid = false → exec (.dispOn v) s = .next { s with code := .invalidArgument, busy := false }) ∧
    (s.disp.valid = true → s.busMode = true →
      ∃ t st, exec (.dispOn v) s = .next t ∧
        t.busLog = s.busLog ++
          [.write s.disp.conf.addr [s.params.typeCmd, if v then 0xAF#8 else 0xAE#8] true st, .stop] ∧
        t.code = busCode st ∧ t.busy = false ∧ t.busMode = true ∧ t.disp = s.disp ∧ t.result = s.result ∧
        t.draws = s.draws ∧ keepsOperands s t ∧ keepsFramebuffer s t ∧ keepsStacks s t ∧ keepsOutside s t)

/-- 41_display.md R162, R163, R172, R173: the range commands send three bytes as given, once the operands fit a byte. -/
def Obligations.RangeCommandsSendThreeBytes : Prop :=
  decode 0x00000015#32 = .ok .dispSetColRange ∧ decode 0x00000016#32 = .ok .dispSetPageRange ∧
  ∀ (s : State) (i : Instr) (c : Byte), (i = .dispSetColRange ∧ c = 0x21#8) ∨ (i = .dispSetPageRange ∧ c = 0x22#8) →
    (s.disp.valid = false → exec i s = .next { s with code := .invalidArgument, busy := false }) ∧
    (255 < s.arg0.toNat ∨ 255 < s.arg1.toNat →
      exec i s = .next { s with code := .invalidArgument, busy := false }) ∧
    (s.disp.valid = true → s.arg0.toNat ≤ 255 → s.arg1.toNat ≤ 255 → s.busMode = true →
      ∃ t evs st, exec i s = .next t ∧
        SentBy s.disp.conf.addr (cmdWrites s.params [c, s.arg0.extractLsb' 0 8, s.arg1.extractLsb' 0 8]) evs st ∧
        t.busLog = s.busLog ++ evs ++ [.stop] ∧
        t.code = busCode st ∧ t.busy = false ∧ t.busMode = true ∧ t.disp = s.disp ∧ t.result = s.result ∧
        t.draws = s.draws ∧ keepsOperands s t ∧ keepsFramebuffer s t ∧ keepsStacks s t ∧ keepsOutside s t)

/-- 41_display.md R167, R168: DISP_UPDATE does nothing when no tile is dirty; otherwise it takes the full path exactly when
FB.count exceeds the threshold of the geometry, and the differential path up to it: it is then DISP_UPDATE_ALL or
DISP_UPDATE_DIFF, whose statements say what is left when a write fails (R171). -/
def Obligations.DispUpdateChoosesByTheThreshold : Prop :=
  Config.params.thresh32 = 147 ∧ Config.params.thresh64 = 294 ∧
  ∀ s : State, s.Inv → s.disp.valid = true → s.fb.alloc = true → s.fb.columns = 128 →
    s.fb.height = (if s.disp.conf.geom then 64 else 32) →
    (s.fb.count = 0 → exec .dispUpdate s = .next { s with code := .ok, busy := false }) ∧
    (0 < s.fb.count → exec .dispUpdate s =
      if (if s.disp.conf.geom then s.params.thresh64 else s.params.thresh32) < s.fb.count then exec .dispUpdateAll s
      else exec .dispUpdateDiff s) ∧
    (0 < s.fb.count → ∃ t evs st, exec .dispUpdate s = .next t ∧
      SentBy s.disp.conf.addr
        (if (if s.disp.conf.geom then s.params.thresh64 else s.params.thresh32) < s.fb.count then fullWrites s
         else diffWrites s none s.dirtyTiles) evs st ∧
      t.busLog = s.busLog ++ evs ++ [.stop] ∧ t.code = busCode st ∧ t.busy = false ∧
      (st = .ok → t.fb.count = 0 ∧ ∀ i, i < s.fb.ntiles → t.isDirty i = false) ∧
      t.tiles = s.tiles ∧ t.fb = { s.fb with count := t.fb.count } ∧ t.busMode = true ∧ t.disp = s.disp ∧
      t.result = s.result ∧ t.draws = s.draws ∧ keepsOperands s t ∧ keepsStacks s t ∧ keepsOutside s t)

/-- 41_display.md R169, R171: DISP_UPDATE_ALL sends the whole frame in one sequence; the dirty bits are cleared only if
every write returned OK. -/
def Obligations.UpdateAllSendsTheWholeFrame : Prop :=
  decode 0x00000013#32 = .ok .dispUpdateAll ∧
  (∀ s : State, (s.disp.valid = false ∨
      ¬ (s.fb.alloc = true ∧ s.fb.columns = 128 ∧ s.fb.height = if s.disp.conf.geom then 64 else 32)) →
    exec .dispUpdateAll s = .next { s with code := .invalidArgument, busy := false }) ∧
  ∀ s : State, s.busMode = true → s.disp.valid = true → s.fb.alloc = true → s.fb.columns = 128 →
    s.fb.height = (if s.disp.conf.geom then 64 else 32) →
    ∃ t evs st, exec .dispUpdateAll s = .next t ∧ SentBy s.disp.conf.addr (fullWrites s) evs st ∧
      t.busLog = s.busLog ++ evs ++ [.stop] ∧ t.code = busCode st ∧ t.busy = false ∧ t.busMode = true ∧
      (st = .ok → t.fb = { s.fb with count := 0 } ∧ ∀ i, i < s.fb.ntiles → t.isDirty i = false) ∧
      (st ≠ .ok → t.fb = s.fb ∧ t.dirty = s.dirty) ∧
      t.tiles = s.tiles ∧ t.disp = s.disp ∧ t.result = s.result ∧ t.draws = s.draws ∧ keepsOperands s t ∧
      keepsStacks s t ∧ keepsOutside s t

/-- 41_display.md R170, R171: DISP_UPDATE_DIFF sends each dirty tile in the order of the walk, addressed once per run; the
tiles sent by a write that returned OK are clean afterwards and exactly those, FB.count falls with each, and with no dirty
tile nothing is sent. -/
def Obligations.UpdateDiffSendsTheDirtyRuns : Prop :=
  decode 0x00000014#32 = .ok .dispUpdateDiff ∧
  (∀ s : State, (s.disp.valid = false ∨
      ¬ (s.fb.alloc = true ∧ s.fb.columns = 128 ∧ s.fb.height = if s.disp.conf.geom then 64 else 32)) →
    exec .dispUpdateDiff s = .next { s with code := .invalidArgument, busy := false }) ∧
  ∀ s : State, s.Inv → s.disp.valid = true → s.fb.alloc = true → s.fb.columns = 128 →
    s.fb.height = (if s.disp.conf.geom then 64 else 32) →
    ∃ t evs st, exec .dispUpdateDiff s = .next t ∧
      SentBy s.disp.conf.addr (diffWrites s none s.dirtyTiles) evs st ∧
      t.busLog = s.busLog ++ evs ++ (if s.fb.count = 0 then [] else [.stop]) ∧ t.code = busCode st ∧ t.busy = false ∧
      (∀ i, i < s.fb.ntiles → (t.isDirty i = true ↔ i ∈ s.dirtyTiles.drop (okDataWrites s.params evs))) ∧
      t.fb = { s.fb with count := s.fb.count - okDataWrites s.params evs } ∧
      (st = .ok → okDataWrites s.params evs = s.fb.count) ∧
      t.tiles = s.tiles ∧ t.busMode = true ∧ t.disp = s.disp ∧ t.result = s.result ∧ t.draws = s.draws ∧
      keepsOperands s t ∧ keepsStacks s t ∧ keepsOutside s t

/-- 41_display.md R174: a second DISP_UPDATE right after one that finished OK touches the bus zero times. -/
def Obligations.SecondUpdateIsANoOp : Prop :=
  ∀ s t : State, s.Inv → s.disp.valid = true → s.fb.alloc = true → s.fb.columns = 128 →
    s.fb.height = (if s.disp.conf.geom then 64 else 32) →
    exec .dispUpdate s = .next t → t.code = .ok → exec .dispUpdate t = .next t

/-- 41_display.md R174: a full update that finished OK has appended 6 + FB.ntiles writes to the bus log and a differential
one 6R + D, with D dirty tiles in R maximal runs of consecutive dirty indices; each is held, and one stop ends them (none
when no tile was dirty and nothing was sent). -/
def Obligations.UpdateWriteCounts : Prop :=
  ∀ (i : Instr) (s t : State), s.Inv → s.disp.valid = true → s.fb.alloc = true → s.fb.columns = 128 →
    s.fb.height = (if s.disp.conf.geom then 64 else 32) → exec i s = .next t → t.code = .ok →
    (i = .dispUpdateAll →
      ∃ evs, t.busLog = s.busLog ++ evs ++ [.stop] ∧ evs.length = 6 + s.fb.ntiles ∧
        ∀ e ∈ evs, ∃ a bs, e = .write a bs true .ok) ∧
    (i = .dispUpdateDiff →
      ∃ evs, t.busLog = s.busLog ++ evs ++ (if s.fb.count = 0 then [] else [.stop]) ∧
        evs.length = 6 * s.dirtyRuns + s.fb.count ∧ s.fb.count = s.dirtyTiles.length ∧
        ∀ e ∈ evs, ∃ a bs, e = .write a bs true .ok)

/-- 41_display.md R161: `panel_state` after a command is what the table gives, for every command; and the log stays one
from which it can be read.  The reading of the log is the model's (log entry 16). -/
def Obligations.PanelStateFollowsItsTable : Prop :=
  ∀ (i : Instr) (s t : State), s.Inv → s.PanelInv → exec i s = .next t →
    panelState t = panelAfter (panelState s) i t.code ∧ t.PanelInv

/-- 41_display.md R174, 20_memory.md R86-R89: after a full update that finished OK, a reference panel in horizontal mode
holds the framebuffer: every tile byte, and every pixel as the bit that drives it before the remaps.  The panel is the
reference instance, from general knowledge (log entry 17). -/
def Obligations.FullUpdateReachesTheReferencePanel : Prop :=
  ∀ (s t : State) (p : Panel) (arrives : Bool), s.Inv → s.disp.valid = true → s.fb.alloc = true → s.fb.columns = 128 →
    s.fb.height = (if s.disp.conf.geom then 64 else 32) → exec .dispUpdateAll s = .next t → t.code = .ok →
    p.amode = 0 → p.pending = none →
    (∀ pg c, pg < s.fb.pages → c < 128 →
      (panelRun s.params s.disp.conf.addr
        ((t.busLog.drop s.busLog.length).map fun e => (e, arrives)) p).gddram[128 * pg + c]? =
      some (s.tile (pg * 128 + c))) ∧
    ∀ c r : Nat, c < 128 → r < s.fb.height →
      pixelGet s c r = some ((panelRun s.params s.disp.conf.addr
        ((t.busLog.drop s.busLog.length).map fun e => (e, arrives)) p).ramPixel c r)

/-! ## Rasterizers -/

/-- 42_draw.md R201: the line generator visits `max(|dx|, |dy|) + 1` distinct points from one end to the other, each step
moving x by sx or 0 and y by sy or 0, never back. -/
def Obligations.LineIsAMonotonicWalk : Prop :=
  ∀ x0 y0 x1 y1 : Int,
    (linePts x0 y0 x1 y1).length = max (x1 - x0).natAbs (y1 - y0).natAbs + 1 ∧
    (linePts x0 y0 x1 y1).Nodup ∧
    (linePts x0 y0 x1 y1).head? = some (x0, y0) ∧ (linePts x0 y0 x1 y1).getLast? = some (x1, y1) ∧
    ∀ k p q, (linePts x0 y0 x1 y1)[k]? = some p → (linePts x0 y0 x1 y1)[k + 1]? = some q →
      (q.1 = p.1 ∨ q.1 = p.1 + if x0 < x1 then 1 else -1) ∧ (q.2 = p.2 ∨ q.2 = p.2 + if y0 < y1 then 1 else -1)

/-- 42_draw.md R203: the four edges are exactly the outline of the box, corners in any order. -/
def Obligations.RectIsTheOutlineOfItsBox : Prop :=
  ∀ x0 y0 x1 y1 x y : Int,
    (x, y) ∈ rectPts x0 y0 x1 y1 ↔
      min x0 x1 ≤ x ∧ x ≤ max x0 x1 ∧ min y0 y1 ≤ y ∧ y ≤ max y0 y1 ∧ (x = x0 ∨ x = x1 ∨ y = y0 ∨ y = y1)

/-- 42_draw.md R204: the circle's point set has the 8 symmetries of the square about its centre, reaches the radius on the
axis and goes no further than it in x or y, and its loop needs no more than `r + 1` iterations (60_exceptions.md R265). -/
def Obligations.CircleHasTheSymmetriesOfTheSquare : Prop :=
  (∀ (xc yc : Int) (r : Nat) (dx dy : Int), (xc + dx, yc + dy) ∈ circlePts xc yc r →
    (xc + dy, yc + dx) ∈ circlePts xc yc r ∧ (xc - dx, yc + dy) ∈ circlePts xc yc r ∧
    (xc + dx, yc - dy) ∈ circlePts xc yc r) ∧
  (∀ (xc yc : Int) (r : Nat), (xc + r, yc) ∈ circlePts xc yc r) ∧
  (∀ (xc yc : Int) (r : Nat) (x y : Int), (x, y) ∈ circlePts xc yc r → (x - xc).natAbs ≤ r ∧ (y - yc).natAbs ≤ r) ∧
  (∀ (xc yc : Int) (r k : Nat), circleWalk xc yc (r + 1 + k) r 0 (1 - r) = circlePts xc yc r)

/-- 42_draw.md R206: the ellipse's points do not depend on the order of the box's corners, are symmetric about the box's
centre, lie in the box and reach each of its four sides; and its loops end by themselves within the model's bounds
(60_exceptions.md R265, log entry 12). -/
def Obligations.EllipseIsSymmetricInItsBox : Prop :=
  ∀ x0 y0 x1 y1 : Int,
    ellipsePts x1 y0 x0 y1 = ellipsePts x0 y0 x1 y1 ∧ ellipsePts x0 y1 x1 y0 = ellipsePts x0 y0 x1 y1 ∧
    (∀ x y, (x, y) ∈ ellipsePts x0 y0 x1 y1 →
      (x0 + x1 - x, y) ∈ ellipsePts x0 y0 x1 y1 ∧ (x, y0 + y1 - y) ∈ ellipsePts x0 y0 x1 y1) ∧
    (∀ x y, (x, y) ∈ ellipsePts x0 y0 x1 y1 →
      min x0 x1 ≤ x ∧ x ≤ max x0 x1 ∧ min y0 y1 ≤ y ∧ y ≤ max y0 y1) ∧
    (∃ y, (min x0 x1, y) ∈ ellipsePts x0 y0 x1 y1) ∧ (∃ y, (max x0 x1, y) ∈ ellipsePts x0 y0 x1 y1) ∧
    (∃ x, (x, min y0 y1) ∈ ellipsePts x0 y0 x1 y1) ∧ (∃ x, (x, max y0 y1) ∈ ellipsePts x0 y0 x1 y1) ∧
    ∀ j k a b : Nat, a = (x1 - x0).natAbs → b = (y1 - y0).natAbs →
      ellipseWalk (8 * a * a) (8 * b * b) b (b + 2 + j) (a + b + 2 + k) (ellipseStart x0 y0 x1 y1) =
        ellipsePts x0 y0 x1 y1

/-- 42_draw.md R200, R202, R203, R205, R207, R208: a rasterizer command plots exactly the points of its generator: each
point inside the framebuffer takes the value, no other bit of any tile changes, the tiles that change are marked dirty and
counted, points outside are skipped, and the command finishes OK. -/
def Obligations.RasterizersPlotTheirPoints : Prop :=
  ∀ (i : Instr) (s : State) (pts : List Pt) (v : Bool), rasterPoints s i = some (pts, v) → s.fb.alloc = true →
    ∃ t, exec i s = .next t ∧ t.code = .ok ∧ t.busy = false ∧
      (∀ x y, (x, y) ∈ pts → pixelGet s x y ≠ none → pixelGet t x y = some v) ∧
      (∀ j n, (t.tile j).getLsbD n ≠ (s.tile j).getLsbD n →
        ∃ x y, (x, y) ∈ pts ∧ pixelGet s x y = some (!v) ∧ j = s.tileIndex x y ∧ n = y.toNat % 8) ∧
      (∀ j, t.isDirty j = true ↔
        s.isDirty j = true ∨ ∃ x y, (x, y) ∈ pts ∧ pixelGet s x y = some (!v) ∧ j = s.tileIndex x y) ∧
      t.fb = { s.fb with count := s.fb.count +
        (List.range (s.fb.columns * ((s.fb.height + 7) / 8))).countP (fun j => t.isDirty j && !s.isDirty j) } ∧
      t.result = s.result ∧ t.disp = s.disp ∧ t.draws = s.draws ∧ keepsOperands s t ∧ keepsBus s t ∧
      keepsStacks s t ∧ keepsOutside s t

/-- 42_draw.md R208: the same rasterizer command a second time changes nothing. -/
def Obligations.RasterizingTwiceIsRasterizingOnce : Prop :=
  ∀ (i : Instr) (s t : State) (pts : List Pt) (v : Bool), rasterPoints s i = some (pts, v) → s.fb.alloc = true →
    exec i s = .next t → exec i t = .next t

/-! ## Flood fill -/

/-- 43_fill_stack.md R231, R232: where DRAW_FILL ends before its walk: no framebuffer, a seed outside it, nothing to do, no
room for FSTK; nothing but STATUS changes. -/
def Obligations.FillEndsBeforeItsWalk : Prop :=
  ∀ (s : State) (v m : Bool),
    (s.fb.alloc = false → exec (.drawFill v m) s = .next { s with code := .invalidArgument, busy := false }) ∧
    (s.fb.alloc = true → pixelGet s s.arg0.toInt s.arg1.toInt = none →
      exec (.drawFill v m) s = .next { s with code := .outOfBounds, busy := false }) ∧
    (s.fb.alloc = true → pixelGet s s.arg0.toInt s.arg1.toInt ≠ none → m = v →
      exec (.drawFill v m) s = .next { s with code := .ok, busy := false }) ∧
    (s.fb.alloc = true → pixelGet s s.arg0.toInt s.arg1.toInt ≠ none → m ≠ v →
      s.params.stackMaxEntries < max 1 s.params.fillStackInitCapacity →
      exec (.drawFill v m) s = .next { s with code := .outOfMemory, busy := false })

/-- 43_fill_stack.md R230, R232: whatever DRAW_FILL finishes with, it changes only pixels that held `m`, which then hold
`n`, and marks exactly their tiles dirty; FSTK is released; nothing else changes but STATUS. -/
def Obligations.FillChangesOnlyMatchingPixels : Prop :=
  ∀ (s : State) (v m : Bool), s.Inv → s.fb.alloc = true →
    ∃ t, exec (.drawFill v m) s = .next t ∧ t.busy = false ∧ t.fstk = Stack.none ∧
      (t.code = .ok ∨ t.code = .outOfBounds ∨ t.code = .outOfMemory) ∧
      (∀ j n, (t.tile j).getLsbD n ≠ (s.tile j).getLsbD n →
        ∃ x y, pixelGet s x y = some m ∧ pixelGet t x y = some v ∧ m ≠ v ∧ j = s.tileIndex x y ∧ n = y.toNat % 8) ∧
      (∀ j, t.isDirty j = true ↔
        s.isDirty j = true ∨ ∃ x y, pixelGet s x y ≠ pixelGet t x y ∧ j = s.tileIndex x y) ∧
      t.fb = { s.fb with count := t.fb.count } ∧ t.fb.count = t.dirtyTotal ∧
      t.result = s.result ∧ t.disp = s.disp ∧ t.draws = s.draws ∧ t.stk = s.stk ∧ keepsOperands s t ∧
      keepsBus s t ∧ keepsOutside s t

/-- 43_fill_stack.md R233: when DRAW_FILL finishes OK, the pixels repainted are exactly the 4-connected component of
`m`-valued pixels that contains the seed, and every other pixel is unchanged. -/
def Obligations.FillRepaintsTheConnectedComponent : Prop :=
  ∀ (s t : State) (v m : Bool), s.Inv → s.fb.alloc = true → m ≠ v →
    exec (.drawFill v m) s = .next t → t.code = .ok →
    ∀ x y, (Reaches s m (s.s16 0, s.s16 1) (x, y) → pixelGet t x y = some v) ∧
      (¬ Reaches s m (s.s16 0, s.s16 1) (x, y) → pixelGet t x y = pixelGet s x y)

/-- 43_fill_stack.md R233: OUT_OF_MEMORY occurs only for want of room: with a stack limit above what one seed and two per
pixel can need, DRAW_FILL with an in-bounds seed finishes OK. -/
def Obligations.FillWithRoomFinishesOk : Prop :=
  ∀ (s : State) (v m : Bool), s.Inv → s.fb.alloc = true → pixelGet s (s.s16 0) (s.s16 1) ≠ none →
    s.params.fillStackInitCapacity ≤ s.params.stackMaxEntries →
    8 * (s.fb.columns * s.fb.height) + 8 ≤ s.params.stackMaxEntries →
    ∃ t, exec (.drawFill v m) s = .next t ∧ t.code = .ok ∧ t.busy = false ∧
      (pixelGet s (s.s16 0) (s.s16 1) = some m → pixelGet t (s.s16 0) (s.s16 1) = some v) ∧
      (pixelGet s (s.s16 0) (s.s16 1) = some (!m) → t = { s with code := .ok, busy := false })

/-- 60_exceptions.md R265: the outer loop of a fill ends by itself: given more iterations than `fillSteps`, the model's
bound (log entry 12), it does the same. -/
def Obligations.FillLoopEndsByItself : Prop :=
  ∀ (s r : State) (x y : Int) (v m : Bool) (S : Stack) (k : Nat), s.Inv → s.fb.alloc = true → m ≠ v →
    stackAlloc s.params.stackMaxEntries s.params.fillStackInitCapacity = some S →
    pixelGet s x y ≠ none → pushSeed x y (s.setFstk S) = (r, .ok) →
    fillLoop m v (fillSteps s + k) r = fillLoop m v (fillSteps s) r

/-! ## Stack commands -/

/-- 43_fill_stack.md R234, R238: STK_ALLOC. -/
def Obligations.StkAllocAllocatesAnEmptyStack : Prop :=
  decode 0x00000030#32 = .ok .stkAlloc ∧
  ∀ s : State,
    (s.stk.alloc = true → exec .stkAlloc s = .next { s with code := .invalidArgument, busy := false }) ∧
    (s.stk.alloc = false → s.params.stackMaxEntries < max 1 s.arg0.toNat →
      exec .stkAlloc s = .next { s with code := .outOfMemory, busy := false }) ∧
    (s.stk.alloc = false → max 1 s.arg0.toNat ≤ s.params.stackMaxEntries →
      exec .stkAlloc s = .next { s with stk := ⟨true, max 1 s.arg0.toNat, []⟩, code := .ok, busy := false })

/-- 43_fill_stack.md R235, R239: STK_PUSH: a full stack doubles its capacity first, or fails with the stack unmodified. -/
def Obligations.StkPushDoublesAFullStack : Prop :=
  decode 0x00000031#32 = .ok .stkPush ∧
  ∀ s : State,
    (s.stk.alloc = false → exec .stkPush s = .next { s with code := .invalidArgument, busy := false }) ∧
    (s.stk.alloc = true → s.stk.count ≠ s.stk.cap →
      exec .stkPush s = .next { s with
        stk := ⟨true, s.stk.cap, s.arg0 :: s.stk.entries⟩, code := .ok, busy := false }) ∧
    (s.stk.alloc = true → s.stk.count = s.stk.cap → 2 * s.stk.cap ≤ s.params.stackMaxEntries →
      exec .stkPush s = .next { s with
        stk := ⟨true, 2 * s.stk.cap, s.arg0 :: s.stk.entries⟩, code := .ok, busy := false }) ∧
    (s.stk.alloc = true → s.stk.count = s.stk.cap → s.params.stackMaxEntries < 2 * s.stk.cap →
      exec .stkPush s = .next { s with code := .outOfMemory, busy := false })

/-- 43_fill_stack.md R236, R240: STK_POP. -/
def Obligations.StkPopReturnsTheTopEntry : Prop :=
  decode 0x00000032#32 = .ok .stkPop ∧
  ∀ s : State,
    (s.stk.alloc = false → exec .stkPop s = .next { s with code := .invalidArgument, busy := false }) ∧
    (s.stk.alloc = true → s.stk.entries = [] →
      exec .stkPop s = .next { s with code := .notFound, busy := false }) ∧
    (∀ v rest, s.stk.alloc = true → s.stk.entries = v :: rest →
      exec .stkPop s = .next { s with
        stk := ⟨true, s.stk.cap, rest⟩, result := v.zeroExtend 32, code := .ok, busy := false })

/-- 43_fill_stack.md R237, R241: STK_DEALLOC. -/
def Obligations.StkDeallocReleasesTheStack : Prop :=
  decode 0x00000033#32 = .ok .stkDealloc ∧
  ∀ s : State,
    (s.stk.alloc = false → exec .stkDealloc s = .next { s with code := .invalidArgument, busy := false }) ∧
    (s.stk.alloc = true →
      exec .stkDealloc s = .next { s with stk := ⟨false, 0, []⟩, code := .ok, busy := false })

/-- 43_fill_stack.md R242: pushes that all finish OK are popped in the opposite order, and the stack below them is as it
was. -/
def Obligations.PushedValuesPopInReverse : Prop :=
  ∀ (vs : List Half) (s t : State), pushesOk vs s t →
    ∃ u, popsGive vs.reverse t u ∧ u.stk.entries = s.stk.entries

/-! ## The register map and panel_state over every step -/

/-- 10_state.md R20, R22, R23, R26-R29, 60_exceptions.md R260: what each host register reads, at its offset, with the numbers
of the status codes.  That the counts and capacities fit their registers rests on the model's numbers and their invariant (log
entries 10 and 11). -/
def Obligations.RegistersReadTheState : Prop :=
  (∀ s : State,
    s.readWord 0x000 = s.cmd ∧
    s.readWord 0x004 = (if s.busy then 0x80000000#32 else 0#32) |||
      (match s.code with
        | .ok => 0x00#32
        | .invalidArgument => 0x01#32
        | .outOfBounds => 0x02#32
        | .outOfMemory => 0x03#32
        | .notFound => 0x04#32
        | .busBusy => 0x10#32
        | .busArbitrationLost => 0x11#32
        | .busAddressNack => 0x12#32
        | .busTimeout => 0x13#32
        | .busDataOverrun => 0x14#32) ∧
    s.readWord 0x008 = s.result ∧
    s.readWord 0x010 = s.arg0.zeroExtend 32 ∧ s.readWord 0x014 = s.arg1.zeroExtend 32 ∧
    s.readWord 0x018 = s.arg2.zeroExtend 32 ∧ s.readWord 0x01C = s.arg3.zeroExtend 32) ∧
  (∀ (s : State) (off : Fin 0x30000) (c : DispConf),
    (off = 0x00C ∧ c = s.cfg) ∨ (off = 0x02C ∧ c = s.disp.conf) →
    (s.readWord off).extractLsb' 0 7 = c.addr ∧ (s.readWord off).getLsbD 7 = false ∧
    (s.readWord off).getLsbD 8 = c.geom ∧ (s.readWord off).getLsbD 9 = c.cpsrc ∧
    (s.readWord off).getLsbD 10 = c.fliph ∧ (s.readWord off).getLsbD 11 = c.flipv ∧
    (s.readWord off).extractLsb' 12 19 = 0 ∧ (s.readWord off).getLsbD 31 = (off == 0x02C && s.disp.valid)) ∧
  (∀ s : State, s.Inv →
    ((s.readWord 0x020).extractLsb' 0 16).toNat = s.fb.columns ∧
    ((s.readWord 0x020).extractLsb' 16 16).toNat = s.fb.height ∧
    ((s.readWord 0x024).extractLsb' 0 16).toNat = s.fb.pages ∧ (s.readWord 0x024).extractLsb' 16 15 = 0 ∧
    (s.readWord 0x024).getLsbD 31 = s.fb.alloc ∧
    (s.readWord 0x028).toNat = s.fb.count ∧
    (s.readWord 0x030).toNat = s.stk.cap ∧ (s.readWord 0x034).toNat = s.stk.entries.length ∧
    (s.fb.alloc = false → s.readWord 0x020 = 0 ∧ s.readWord 0x024 = 0) ∧
    (s.stk.alloc = false → s.readWord 0x030 = 0 ∧ s.readWord 0x034 = 0))

/-- 41_display.md R161, 70_reset_and_hazards.md R291: every step, a host access, the reset input and an illegal word among
them, keeps what `panel_state` is read by, and `panel_state` itself changes only by a completed command, as the table says, or
by reset.  The reading of the bus log is the model's (log entry 16), and so is what a step is (log entry 1). -/
def Obligations.EveryStepKeepsThePanelInvariant : Prop :=
  ∀ s t : State, s.Inv → s.PanelInv → step s = .next t →
    t.PanelInv ∧
    (panelState t = panelState s ∨
      (∃ i, s.busy = true ∧ decode s.cmd = .ok i ∧ panelState t = panelAfter (panelState s) i t.code) ∨
      ∃ e rest, s.pending = e :: rest ∧ e.action = .reset ∧ panelState t = .uninitialized)

/-- 30_encoding.md R112, 20_memory.md R82: a turn of the WAIT loop reads STATUS; the loop breaks at the first read of bit 31 = 0,
however many polls were left, and goes on after a read of bit 31 = 1.  How many of its polls come before the engine's step is
the model's (log entry 19). -/
def Obligations.WaitPollsStatusUntilNotBusy : Prop :=
  (∀ (s : State) (k : Nat) (early : Bool) (rest : List HostEvent), s.busy = false →
    s.pending = ⟨.wait k, early⟩ :: rest →
    ∃ w : Word, w.getLsbD 31 = false ∧ w.extractLsb' 0 8 = statusByte s.code ∧
      step s = .next { s with pending := rest, hostReadsRev := ⟨regOffset .status, w⟩ :: s.hostReadsRev }) ∧
  (∀ (s : State) (k : Nat) (rest : List HostEvent), s.busy = true → s.pending = ⟨.wait k, true⟩ :: rest →
    ∃ w : Word, w.getLsbD 31 = true ∧ w.extractLsb' 0 8 = statusByte s.code ∧
      step s = .next { s with
        pending := ⟨.wait (k - 1), decide (1 < k)⟩ :: rest
        hostReadsRev := ⟨regOffset .status, w⟩ :: s.hostReadsRev }) ∧
  (∀ (s : State) (k : Nat) (i : Instr) (rest : List HostEvent), s.busy = true → decode s.cmd = .ok i →
    s.pending = ⟨.wait k, false⟩ :: rest → step s = exec i s)
end

