-- ==== Sys2Proof/Laws/State.lean ====
section
/-! SUPPORT. One lemma per field per single update of the state (Ops.lean, HostPort.lean), each true by unfolding, so
that no later proof unfolds a record update. -/

namespace Sys2Proof.Machine

open Sys2Proof

variable (s : State)

/-! ### finish -/

@[simp] theorem finish_params (c : Status) : (s.finish c).params = s.params := rfl
@[simp] theorem finish_cmd (c : Status) : (s.finish c).cmd = s.cmd := rfl
@[simp] theorem finish_busy (c : Status) : (s.finish c).busy = false := rfl
@[simp] theorem finish_code (c : Status) : (s.finish c).code = c := rfl
@[simp] theorem finish_result (c : Status) : (s.finish c).result = s.result := rfl
@[simp] theorem finish_cfg (c : Status) : (s.finish c).cfg = s.cfg := rfl
@[simp] theorem finish_arg0 (c : Status) : (s.finish c).arg0 = s.arg0 := rfl
@[simp] theorem finish_arg1 (c : Status) : (s.finish c).arg1 = s.arg1 := rfl
@[simp] theorem finish_arg2 (c : Status) : (s.finish c).arg2 = s.arg2 := rfl
@[simp] theorem finish_arg3 (c : Status) : (s.finish c).arg3 = s.arg3 := rfl
@[simp] theorem finish_disp (c : Status) : (s.finish c).disp = s.disp := rfl
@[simp] theorem finish_fb (c : Status) : (s.finish c).fb = s.fb := rfl
@[simp] theorem finish_tiles (c : Status) : (s.finish c).tiles = s.tiles := rfl
@[simp] theorem finish_dirty (c : Status) : (s.finish c).dirty = s.dirty := rfl
@[simp] theorem finish_stk (c : Status) : (s.finish c).stk = s.stk := rfl
@[simp] theorem finish_fstk (c : Status) : (s.finish c).fstk = s.fstk := rfl
@[simp] theorem finish_busMode (c : Status) : (s.finish c).busMode = s.busMode := rfl
@[simp] theorem finish_busLogRev (c : Status) : (s.finish c).busLogRev = s.busLogRev := rfl
@[simp] theorem finish_busAnswers (c : Status) : (s.finish c).busAnswers = s.busAnswers := rfl
@[simp] theorem finish_pending (c : Status) : (s.finish c).pending = s.pending := rfl
@[simp] theorem finish_hostReadsRev (c : Status) : (s.finish c).hostReadsRev = s.hostReadsRev := rfl
@[simp] theorem finish_draws (c : Status) : (s.finish c).draws = s.draws := rfl

/-! ### setResult -/

@[simp] theorem setResult_params (v : Word) : (s.setResult v).params = s.params := rfl
@[simp] theorem setResult_cmd (v : Word) : (s.setResult v).cmd = s.cmd := rfl
@[simp] theorem setResult_busy (v : Word) : (s.setResult v).busy = s.busy := rfl
@[simp] theorem setResult_code (v : Word) : (s.setResult v).code = s.code := rfl
@[simp] theorem setResult_result (v : Word) : (s.setResult v).result = v := rfl
@[simp] theorem setResult_cfg (v : Word) : (s.setResult v).cfg = s.cfg := rfl
@[simp] theorem setResult_arg0 (v : Word) : (s.setResult v).arg0 = s.arg0 := rfl
@[simp] theorem setResult_arg1 (v : Word) : (s.setResult v).arg1 = s.arg1 := rfl
@[simp] theorem setResult_arg2 (v : Word) : (s.setResult v).arg2 = s.arg2 := rfl
@[simp] theorem setResult_arg3 (v : Word) : (s.setResult v).arg3 = s.arg3 := rfl
@[simp] theorem setResult_disp (v : Word) : (s.setResult v).disp = s.disp := rfl
@[simp] theorem setResult_fb (v : Word) : (s.setResult v).fb = s.fb := rfl
@[simp] theorem setResult_tiles (v : Word) : (s.setResult v).tiles = s.tiles := rfl
@[simp] theorem setResult_dirty (v : Word) : (s.setResult v).dirty = s.dirty := rfl
@[simp] theorem setResult_stk (v : Word) : (s.setResult v).stk = s.stk := rfl
@[simp] theorem setResult_fstk (v : Word) : (s.setResult v).fstk = s.fstk := rfl
@[simp] theorem setResult_busMode (v : Word) : (s.setResult v).busMode = s.busMode := rfl
@[simp] theorem setResult_busLogRev (v : Word) : (s.setResult v).busLogRev = s.busLogRev := rfl
@[simp] theorem setResult_busAnswers (v : Word) : (s.setResult v).busAnswers = s.busAnswers := rfl
@[simp] theorem setResult_pending (v : Word) : (s.setResult v).pending = s.pending := rfl
@[simp] theorem setResult_hostReadsRev (v : Word) : (s.setResult v).hostReadsRev = s.hostReadsRev := rfl
@[simp] theorem setResult_draws (v : Word) : (s.setResult v).draws = s.draws := rfl

/-! ### setFb -/

@[simp] theorem setFb_params (b : Fb) : (s.setFb b).params = s.params := rfl
@[simp] theorem setFb_cmd (b : Fb) : (s.setFb b).cmd = s.cmd := rfl
@[simp] theorem setFb_busy (b : Fb) : (s.setFb b).busy = s.busy := rfl
@[simp] theorem setFb_code (b : Fb) : (s.setFb b).code = s.code := rfl
@[simp] theorem setFb_result (b : Fb) : (s.setFb b).result = s.result := rfl
@[simp] theorem setFb_cfg (b : Fb) : (s.setFb b).cfg = s.cfg := rfl
@[simp] theorem setFb_arg0 (b : Fb) : (s.setFb b).arg0 = s.arg0 := rfl
@[simp] theorem setFb_arg1 (b : Fb) : (s.setFb b).arg1 = s.arg1 := rfl
@[simp] theorem setFb_arg2 (b : Fb) : (s.setFb b).arg2 = s.arg2 := rfl
@[simp] theorem setFb_arg3 (b : Fb) : (s.setFb b).arg3 = s.arg3 := rfl
@[simp] theorem setFb_disp (b : Fb) : (s.setFb b).disp = s.disp := rfl
@[simp] theorem setFb_fb (b : Fb) : (s.setFb b).fb = b := rfl
@[simp] theorem setFb_tiles (b : Fb) : (s.setFb b).tiles = s.tiles := rfl
@[simp] theorem setFb_dirty (b : Fb) : (s.setFb b).dirty = s.dirty := rfl
@[simp] theorem setFb_stk (b : Fb) : (s.setFb b).stk = s.stk := rfl
@[simp] theorem setFb_fstk (b : Fb) : (s.setFb b).fstk = s.fstk := rfl
@[simp] theorem setFb_busMode (b : Fb) : (s.setFb b).busMode = s.busMode := rfl
@[simp] theorem setFb_busLogRev (b : Fb) : (s.setFb b).busLogRev = s.busLogRev := rfl
@[simp] theorem setFb_busAnswers (b : Fb) : (s.setFb b).busAnswers = s.busAnswers := rfl
@[simp] theorem setFb_pending (b : Fb) : (s.setFb b).pending = s.pending := rfl
@[simp] theorem setFb_hostReadsRev (b : Fb) : (s.setFb b).hostReadsRev = s.hostReadsRev := rfl
@[simp] theorem setFb_draws (b : Fb) : (s.setFb b).draws = s.draws := rfl

/-! ### setCount -/

@[simp] theorem setCount_params (n : Nat) : (s.setCount n).params = s.params := rfl
@[simp] theorem setCount_cmd (n : Nat) : (s.setCount n).cmd = s.cmd := rfl
@[simp] theorem setCount_busy (n : Nat) : (s.setCount n).busy = s.busy := rfl
@[simp] theorem setCount_code (n : Nat) : (s.setCount n).code = s.code := rfl
@[simp] theorem setCount_result (n : Nat) : (s.setCount n).result = s.result := rfl
@[simp] theorem setCount_cfg (n : Nat) : (s.setCount n).cfg = s.cfg := rfl
@[simp] theorem setCount_arg0 (n : Nat) : (s.setCount n).arg0 = s.arg0 := rfl
@[simp] theorem setCount_arg1 (n : Nat) : (s.setCount n).arg1 = s.arg1 := rfl
@[simp] theorem setCount_arg2 (n : Nat) : (s.setCount n).arg2 = s.arg2 := rfl
@[simp] theorem setCount_arg3 (n : Nat) : (s.setCount n).arg3 = s.arg3 := rfl
@[simp] theorem setCount_disp (n : Nat) : (s.setCount n).disp = s.disp := rfl
@[simp] theorem setCount_fb (n : Nat) : (s.setCount n).fb = { s.fb with count := n } := rfl
@[simp] theorem setCount_tiles (n : Nat) : (s.setCount n).tiles = s.tiles := rfl
@[simp] theorem setCount_dirty (n : Nat) : (s.setCount n).dirty = s.dirty := rfl
@[simp] theorem setCount_stk (n : Nat) : (s.setCount n).stk = s.stk := rfl
@[simp] theorem setCount_fstk (n : Nat) : (s.setCount n).fstk = s.fstk := rfl
@[simp] theorem setCount_busMode (n : Nat) : (s.setCount n).busMode = s.busMode := rfl
@[simp] theorem setCount_busLogRev (n : Nat) : (s.setCount n).busLogRev = s.busLogRev := rfl
@[simp] theorem setCount_busAnswers (n : Nat) : (s.setCount n).busAnswers = s.busAnswers := rfl
@[simp] theorem setCount_pending (n : Nat) : (s.setCount n).pending = s.pending := rfl
@[simp] theorem setCount_hostReadsRev (n : Nat) : (s.setCount n).hostReadsRev = s.hostReadsRev := rfl
@[simp] theorem setCount_draws (n : Nat) : (s.setCount n).draws = s.draws := rfl

/-! ### setTiles -/

@[simp] theorem setTiles_params (m : Ram 8) : (s.setTiles m).params = s.params := rfl
@[simp] theorem setTiles_cmd (m : Ram 8) : (s.setTiles m).cmd = s.cmd := rfl
@[simp] theorem setTiles_busy (m : Ram 8) : (s.setTiles m).busy = s.busy := rfl
@[simp] theorem setTiles_code (m : Ram 8) : (s.setTiles m).code = s.code := rfl
@[simp] theorem setTiles_result (m : Ram 8) : (s.setTiles m).result = s.result := rfl
@[simp] theorem setTiles_cfg (m : Ram 8) : (s.setTiles m).cfg = s.cfg := rfl
@[simp] theorem setTiles_arg0 (m : Ram 8) : (s.setTiles m).arg0 = s.arg0 := rfl
@[simp] theorem setTiles_arg1 (m : Ram 8) : (s.setTiles m).arg1 = s.arg1 := rfl
@[simp] theorem setTiles_arg2 (m : Ram 8) : (s.setTiles m).arg2 = s.arg2 := rfl
@[simp] theorem setTiles_arg3 (m : Ram 8) : (s.setTiles m).arg3 = s.arg3 := rfl
@[simp] theorem setTiles_disp (m : Ram 8) : (s.setTiles m).disp = s.disp := rfl
@[simp] theorem setTiles_fb (m : Ram 8) : (s.setTiles m).fb = s.fb := rfl
@[simp] theorem setTiles_tiles (m : Ram 8) : (s.setTiles m).tiles = m := rfl
@[simp] theorem setTiles_dirty (m : Ram 8) : (s.setTiles m).dirty = s.dirty := rfl
@[simp] theorem setTiles_stk (m : Ram 8) : (s.setTiles m).stk = s.stk := rfl
@[simp] theorem setTiles_fstk (m : Ram 8) : (s.setTiles m).fstk = s.fstk := rfl
@[simp] theorem setTiles_busMode (m : Ram 8) : (s.setTiles m).busMode = s.busMode := rfl
@[simp] theorem setTiles_busLogRev (m : Ram 8) : (s.setTiles m).busLogRev = s.busLogRev := rfl
@[simp] theorem setTiles_busAnswers (m : Ram 8) : (s.setTiles m).busAnswers = s.busAnswers := rfl
@[simp] theorem setTiles_pending (m : Ram 8) : (s.setTiles m).pending = s.pending := rfl
@[simp] theorem setTiles_hostReadsRev (m : Ram 8) : (s.setTiles m).hostReadsRev = s.hostReadsRev := rfl
@[simp] theorem setTiles_draws (m : Ram 8) : (s.setTiles m).draws = s.draws := rfl

/-! ### setDirtyRam -/

@[simp] theorem setDirtyRam_params (m : Ram 1) : (s.setDirtyRam m).params = s.params := rfl
@[simp] theorem setDirtyRam_cmd (m : Ram 1) : (s.setDirtyRam m).cmd = s.cmd := rfl
@[simp] theorem setDirtyRam_busy (m : Ram 1) : (s.setDirtyRam m).busy = s.busy := rfl
@[simp] theorem setDirtyRam_code (m : Ram 1) : (s.setDirtyRam m).code = s.code := rfl
@[simp] theorem setDirtyRam_result (m : Ram 1) : (s.setDirtyRam m).result = s.result := rfl
@[simp] theorem setDirtyRam_cfg (m : Ram 1) : (s.setDirtyRam m).cfg = s.cfg := rfl
@[simp] theorem setDirtyRam_arg0 (m : Ram 1) : (s.setDirtyRam m).arg0 = s.arg0 := rfl
@[simp] theorem setDirtyRam_arg1 (m : Ram 1) : (s.setDirtyRam m).arg1 = s.arg1 := rfl
@[simp] theorem setDirtyRam_arg2 (m : Ram 1) : (s.setDirtyRam m).arg2 = s.arg2 := rfl
@[simp] theorem setDirtyRam_arg3 (m : Ram 1) : (s.setDirtyRam m).arg3 = s.arg3 := rfl
@[simp] theorem setDirtyRam_disp (m : Ram 1) : (s.setDirtyRam m).disp = s.disp := rfl
@[simp] theorem setDirtyRam_fb (m : Ram 1) : (s.setDirtyRam m).fb = s.fb := rfl
@[simp] theorem setDirtyRam_tiles (m : Ram 1) : (s.setDirtyRam m).tiles = s.tiles := rfl
@[simp] theorem setDirtyRam_dirty (m : Ram 1) : (s.setDirtyRam m).dirty = m := rfl
@[simp] theorem setDirtyRam_stk (m : Ram 1) : (s.setDirtyRam m).stk = s.stk := rfl
@[simp] theorem setDirtyRam_fstk (m : Ram 1) : (s.setDirtyRam m).fstk = s.fstk := rfl
@[simp] theorem setDirtyRam_busMode (m : Ram 1) : (s.setDirtyRam m).busMode = s.busMode := rfl
@[simp] theorem setDirtyRam_busLogRev (m : Ram 1) : (s.setDirtyRam m).busLogRev = s.busLogRev := rfl
@[simp] theorem setDirtyRam_busAnswers (m : Ram 1) : (s.setDirtyRam m).busAnswers = s.busAnswers := rfl
@[simp] theorem setDirtyRam_pending (m : Ram 1) : (s.setDirtyRam m).pending = s.pending := rfl
@[simp] theorem setDirtyRam_hostReadsRev (m : Ram 1) : (s.setDirtyRam m).hostReadsRev = s.hostReadsRev := rfl
@[simp] theorem setDirtyRam_draws (m : Ram 1) : (s.setDirtyRam m).draws = s.draws := rfl

/-! ### setDisp -/

@[simp] theorem setDisp_params (d : Disp) : (s.setDisp d).params = s.params := rfl
@[simp] theorem setDisp_cmd (d : Disp) : (s.setDisp d).cmd = s.cmd := rfl
@[simp] theorem setDisp_busy (d : Disp) : (s.setDisp d).busy = s.busy := rfl
@[simp] theorem setDisp_code (d : Disp) : (s.setDisp d).code = s.code := rfl
@[simp] theorem setDisp_result (d : Disp) : (s.setDisp d).result = s.result := rfl
@[simp] theorem setDisp_cfg (d : Disp) : (s.setDisp d).cfg = s.cfg := rfl
@[simp] theorem setDisp_arg0 (d : Disp) : (s.setDisp d).arg0 = s.arg0 := rfl
@[simp] theorem setDisp_arg1 (d : Disp) : (s.setDisp d).arg1 = s.arg1 := rfl
@[simp] theorem setDisp_arg2 (d : Disp) : (s.setDisp d).arg2 = s.arg2 := rfl
@[simp] theorem setDisp_arg3 (d : Disp) : (s.setDisp d).arg3 = s.arg3 := rfl
@[simp] theorem setDisp_disp (d : Disp) : (s.setDisp d).disp = d := rfl
@[simp] theorem setDisp_fb (d : Disp) : (s.setDisp d).fb = s.fb := rfl
@[simp] theorem setDisp_tiles (d : Disp) : (s.setDisp d).tiles = s.tiles := rfl
@[simp] theorem setDisp_dirty (d : Disp) : (s.setDisp d).dirty = s.dirty := rfl
@[simp] theorem setDisp_stk (d : Disp) : (s.setDisp d).stk = s.stk := rfl
@[simp] theorem setDisp_fstk (d : Disp) : (s.setDisp d).fstk = s.fstk := rfl
@[simp] theorem setDisp_busMode (d : Disp) : (s.setDisp d).busMode = s.busMode := rfl
@[simp] theorem setDisp_busLogRev (d : Disp) : (s.setDisp d).busLogRev = s.busLogRev := rfl
@[simp] theorem setDisp_busAnswers (d : Disp) : (s.setDisp d).busAnswers = s.busAnswers := rfl
@[simp] theorem setDisp_pending (d : Disp) : (s.setDisp d).pending = s.pending := rfl
@[simp] theorem setDisp_hostReadsRev (d : Disp) : (s.setDisp d).hostReadsRev = s.hostReadsRev := rfl
@[simp] theorem setDisp_draws (d : Disp) : (s.setDisp d).draws = s.draws := rfl

/-! ### setStk -/

@[simp] theorem setStk_params (S : Stack) : (s.setStk S).params = s.params := rfl
@[simp] theorem setStk_cmd (S : Stack) : (s.setStk S).cmd = s.cmd := rfl
@[simp] theorem setStk_busy (S : Stack) : (s.setStk S).busy = s.busy := rfl
@[simp] theorem setStk_code (S : Stack) : (s.setStk S).code = s.code := rfl
@[simp] theorem setStk_result (S : Stack) : (s.setStk S).result = s.result := rfl
@[simp] theorem setStk_cfg (S : Stack) : (s.setStk S).cfg = s.cfg := rfl
@[simp] theorem setStk_arg0 (S : Stack) : (s.setStk S).arg0 = s.arg0 := rfl
@[simp] theorem setStk_arg1 (S : Stack) : (s.setStk S).arg1 = s.arg1 := rfl
@[simp] theorem setStk_arg2 (S : Stack) : (s.setStk S).arg2 = s.arg2 := rfl
@[simp] theorem setStk_arg3 (S : Stack) : (s.setStk S).arg3 = s.arg3 := rfl
@[simp] theorem setStk_disp (S : Stack) : (s.setStk S).disp = s.disp := rfl
@[simp] theorem setStk_fb (S : Stack) : (s.setStk S).fb = s.fb := rfl
@[simp] theorem setStk_tiles (S : Stack) : (s.setStk S).tiles = s.tiles := rfl
@[simp] theorem setStk_dirty (S : Stack) : (s.setStk S).dirty = s.dirty := rfl
@[simp] theorem setStk_stk (S : Stack) : (s.setStk S).stk = S := rfl
@[simp] theorem setStk_fstk (S : Stack) : (s.setStk S).fstk = s.fstk := rfl
@[simp] theorem setStk_busMode (S : Stack) : (s.setStk S).busMode = s.busMode := rfl
@[simp] theorem setStk_busLogRev (S : Stack) : (s.setStk S).busLogRev = s.busLogRev := rfl
@[simp] theorem setStk_busAnswers (S : Stack) : (s.setStk S).busAnswers = s.busAnswers := rfl
@[simp] theorem setStk_pending (S : Stack) : (s.setStk S).pending = s.pending := rfl
@[simp] theorem setStk_hostReadsRev (S : Stack) : (s.setStk S).hostReadsRev = s.hostReadsRev := rfl
@[simp] theorem setStk_draws (S : Stack) : (s.setStk S).draws = s.draws := rfl

/-! ### setFstk -/

@[simp] theorem setFstk_params (S : Stack) : (s.setFstk S).params = s.params := rfl
@[simp] theorem setFstk_cmd (S : Stack) : (s.setFstk S).cmd = s.cmd := rfl
@[simp] theorem setFstk_busy (S : Stack) : (s.setFstk S).busy = s.busy := rfl
@[simp] theorem setFstk_code (S : Stack) : (s.setFstk S).code = s.code := rfl
@[simp] theorem setFstk_result (S : Stack) : (s.setFstk S).result = s.result := rfl
@[simp] theorem setFstk_cfg (S : Stack) : (s.setFstk S).cfg = s.cfg := rfl
@[simp] theorem setFstk_arg0 (S : Stack) : (s.setFstk S).arg0 = s.arg0 := rfl
@[simp] theorem setFstk_arg1 (S : Stack) : (s.setFstk S).arg1 = s.arg1 := rfl
@[simp] theorem setFstk_arg2 (S : Stack) : (s.setFstk S).arg2 = s.arg2 := rfl
@[simp] theorem setFstk_arg3 (S : Stack) : (s.setFstk S).arg3 = s.arg3 := rfl
@[simp] theorem setFstk_disp (S : Stack) : (s.setFstk S).disp = s.disp := rfl
@[simp] theorem setFstk_fb (S : Stack) : (s.setFstk S).fb = s.fb := rfl
@[simp] theorem setFstk_tiles (S : Stack) : (s.setFstk S).tiles = s.tiles := rfl
@[simp] theorem setFstk_dirty (S : Stack) : (s.setFstk S).dirty = s.dirty := rfl
@[simp] theorem setFstk_stk (S : Stack) : (s.setFstk S).stk = s.stk := rfl
@[simp] theorem setFstk_fstk (S : Stack) : (s.setFstk S).fstk = S := rfl
@[simp] theorem setFstk_busMode (S : Stack) : (s.setFstk S).busMode = s.busMode := rfl
@[simp] theorem setFstk_busLogRev (S : Stack) : (s.setFstk S).busLogRev = s.busLogRev := rfl
@[simp] theorem setFstk_busAnswers (S : Stack) : (s.setFstk S).busAnswers = s.busAnswers := rfl
@[simp] theorem setFstk_pending (S : Stack) : (s.setFstk S).pending = s.pending := rfl
@[simp] theorem setFstk_hostReadsRev (S : Stack) : (s.setFstk S).hostReadsRev = s.hostReadsRev := rfl
@[simp] theorem setFstk_draws (S : Stack) : (s.setFstk S).draws = s.draws := rfl

/-! ### setBusMode -/

@[simp] theorem setBusMode_params (b : Bool) : (s.setBusMode b).params = s.params := rfl
@[simp] theorem setBusMode_cmd (b : Bool) : (s.setBusMode b).cmd = s.cmd := rfl
@[simp] theorem setBusMode_busy (b : Bool) : (s.setBusMode b).busy = s.busy := rfl
@[simp] theorem setBusMode_code (b : Bool) : (s.setBusMode b).code = s.code := rfl
@[simp] theorem setBusMode_result (b : Bool) : (s.setBusMode b).result = s.result := rfl
@[simp] theorem setBusMode_cfg (b : Bool) : (s.setBusMode b).cfg = s.cfg := rfl
@[simp] theorem setBusMode_arg0 (b : Bool) : (s.setBusMode b).arg0 = s.arg0 := rfl
@[simp] theorem setBusMode_arg1 (b : Bool) : (s.setBusMode b).arg1 = s.arg1 := rfl
@[simp] theorem setBusMode_arg2 (b : Bool) : (s.setBusMode b).arg2 = s.arg2 := rfl
@[simp] theorem setBusMode_arg3 (b : Bool) : (s.setBusMode b).arg3 = s.arg3 := rfl
@[simp] theorem setBusMode_disp (b : Bool) : (s.setBusMode b).disp = s.disp := rfl
@[simp] theorem setBusMode_fb (b : Bool) : (s.setBusMode b).fb = s.fb := rfl
@[simp] theorem setBusMode_tiles (b : Bool) : (s.setBusMode b).tiles = s.tiles := rfl
@[simp] theorem setBusMode_dirty (b : Bool) : (s.setBusMode b).dirty = s.dirty := rfl
@[simp] theorem setBusMode_stk (b : Bool) : (s.setBusMode b).stk = s.stk := rfl
@[simp] theorem setBusMode_fstk (b : Bool) : (s.setBusMode b).fstk = s.fstk := rfl
@[simp] theorem setBusMode_busMode (b : Bool) : (s.setBusMode b).busMode = b := rfl
@[simp] theorem setBusMode_busLogRev (b : Bool) : (s.setBusMode b).busLogRev = s.busLogRev := rfl
@[simp] theorem setBusMode_busAnswers (b : Bool) : (s.setBusMode b).busAnswers = s.busAnswers := rfl
@[simp] theorem setBusMode_pending (b : Bool) : (s.setBusMode b).pending = s.pending := rfl
@[simp] theorem setBusMode_hostReadsRev (b : Bool) : (s.setBusMode b).hostReadsRev = s.hostReadsRev := rfl
@[simp] theorem setBusMode_draws (b : Bool) : (s.setBusMode b).draws = s.draws := rfl

/-! ### logEvent -/

@[simp] theorem logEvent_params (e : BusEvent) : (s.logEvent e).params = s.params := rfl
@[simp] theorem logEvent_cmd (e : BusEvent) : (s.logEvent e).cmd = s.cmd := rfl
@[simp] theorem logEvent_busy (e : BusEvent) : (s.logEvent e).busy = s.busy := rfl
@[simp] theorem logEvent_code (e : BusEvent) : (s.logEvent e).code = s.code := rfl
@[simp] theorem logEvent_result (e : BusEvent) : (s.logEvent e).result = s.result := rfl
@[simp] theorem logEvent_cfg (e : BusEvent) : (s.logEvent e).cfg = s.cfg := rfl
@[simp] theorem logEvent_arg0 (e : BusEvent) : (s.logEvent e).arg0 = s.arg0 := rfl
@[simp] theorem logEvent_arg1 (e : BusEvent) : (s.logEvent e).arg1 = s.arg1 := rfl
@[simp] theorem logEvent_arg2 (e : BusEvent) : (s.logEvent e).arg2 = s.arg2 := rfl
@[simp] theorem logEvent_arg3 (e : BusEvent) : (s.logEvent e).arg3 = s.arg3 := rfl
@[simp] theorem logEvent_disp (e : BusEvent) : (s.logEvent e).disp = s.disp := rfl
@[simp] theorem logEvent_fb (e : BusEvent) : (s.logEvent e).fb = s.fb := rfl
@[simp] theorem logEvent_tiles (e : BusEvent) : (s.logEvent e).tiles = s.tiles := rfl
@[simp] theorem logEvent_dirty (e : BusEvent) : (s.logEvent e).dirty = s.dirty := rfl
@[simp] theorem logEvent_stk (e : BusEvent) : (s.logEvent e).stk = s.stk := rfl
@[simp] theorem logEvent_fstk (e : BusEvent) : (s.logEvent e).fstk = s.fstk := rfl
@[simp] theorem logEvent_busMode (e : BusEvent) : (s.logEvent e).busMode = s.busMode := rfl
@[simp] theorem logEvent_busLogRev (e : BusEvent) : (s.logEvent e).busLogRev = e :: s.busLogRev := rfl
@[simp] theorem logEvent_busAnswers (e : BusEvent) : (s.logEvent e).busAnswers = s.busAnswers := rfl
@[simp] theorem logEvent_pending (e : BusEvent) : (s.logEvent e).pending = s.pending := rfl
@[simp] theorem logEvent_hostReadsRev (e : BusEvent) : (s.logEvent e).hostReadsRev = s.hostReadsRev := rfl
@[simp] theorem logEvent_draws (e : BusEvent) : (s.logEvent e).draws = s.draws := rfl

/-! ### dropAnswer -/

@[simp] theorem dropAnswer_params : (s.dropAnswer).params = s.params := rfl
@[simp] theorem dropAnswer_cmd : (s.dropAnswer).cmd = s.cmd := rfl
@[simp] theorem dropAnswer_busy : (s.dropAnswer).busy = s.busy := rfl
@[simp] theorem dropAnswer_code : (s.dropAnswer).code = s.code := rfl
@[simp] theorem dropAnswer_result : (s.dropAnswer).result = s.result := rfl
@[simp] theorem dropAnswer_cfg : (s.dropAnswer).cfg = s.cfg := rfl
@[simp] theorem dropAnswer_arg0 : (s.dropAnswer).arg0 = s.arg0 := rfl
@[simp] theorem dropAnswer_arg1 : (s.dropAnswer).arg1 = s.arg1 := rfl
@[simp] theorem dropAnswer_arg2 : (s.dropAnswer).arg2 = s.arg2 := rfl
@[simp] theorem dropAnswer_arg3 : (s.dropAnswer).arg3 = s.arg3 := rfl
@[simp] theorem dropAnswer_disp : (s.dropAnswer).disp = s.disp := rfl
@[simp] theorem dropAnswer_fb : (s.dropAnswer).fb = s.fb := rfl
@[simp] theorem dropAnswer_tiles : (s.dropAnswer).tiles = s.tiles := rfl
@[simp] theorem dropAnswer_dirty : (s.dropAnswer).dirty = s.dirty := rfl
@[simp] theorem dropAnswer_stk : (s.dropAnswer).stk = s.stk := rfl
@[simp] theorem dropAnswer_fstk : (s.dropAnswer).fstk = s.fstk := rfl
@[simp] theorem dropAnswer_busMode : (s.dropAnswer).busMode = s.busMode := rfl
@[simp] theorem dropAnswer_busLogRev : (s.dropAnswer).busLogRev = s.busLogRev := rfl
@[simp] theorem dropAnswer_busAnswers : (s.dropAnswer).busAnswers = s.busAnswers.tail := rfl
@[simp] theorem dropAnswer_pending : (s.dropAnswer).pending = s.pending := rfl
@[simp] theorem dropAnswer_hostReadsRev : (s.dropAnswer).hostReadsRev = s.hostReadsRev := rfl
@[simp] theorem dropAnswer_draws : (s.dropAnswer).draws = s.draws := rfl

/-! ### drew -/

@[simp] theorem drew_params : (s.drew).params = s.params := rfl
@[simp] theorem drew_cmd : (s.drew).cmd = s.cmd := rfl
@[simp] theorem drew_busy : (s.drew).busy = s.busy := rfl
@[simp] theorem drew_code : (s.drew).code = s.code := rfl
@[simp] theorem drew_result : (s.drew).result = s.result := rfl
@[simp] theorem drew_cfg : (s.drew).cfg = s.cfg := rfl
@[simp] theorem drew_arg0 : (s.drew).arg0 = s.arg0 := rfl
@[simp] theorem drew_arg1 : (s.drew).arg1 = s.arg1 := rfl
@[simp] theorem drew_arg2 : (s.drew).arg2 = s.arg2 := rfl
@[simp] theorem drew_arg3 : (s.drew).arg3 = s.arg3 := rfl
@[simp] theorem drew_disp : (s.drew).disp = s.disp := rfl
@[simp] theorem drew_fb : (s.drew).fb = s.fb := rfl
@[simp] theorem drew_tiles : (s.drew).tiles = s.tiles := rfl
@[simp] theorem drew_dirty : (s.drew).dirty = s.dirty := rfl
@[simp] theorem drew_stk : (s.drew).stk = s.stk := rfl
@[simp] theorem drew_fstk : (s.drew).fstk = s.fstk := rfl
@[simp] theorem drew_busMode : (s.drew).busMode = s.busMode := rfl
@[simp] theorem drew_busLogRev : (s.drew).busLogRev = s.busLogRev := rfl
@[simp] theorem drew_busAnswers : (s.drew).busAnswers = s.busAnswers := rfl
@[simp] theorem drew_pending : (s.drew).pending = s.pending := rfl
@[simp] theorem drew_hostReadsRev : (s.drew).hostReadsRev = s.hostReadsRev := rfl
@[simp] theorem drew_draws : (s.drew).draws = s.draws + 1 := rfl

/-! ### acceptCommand -/

@[simp] theorem acceptCommand_params (w : Word) : (s.acceptCommand w).params = s.params := rfl
@[simp] theorem acceptCommand_cmd (w : Word) : (s.acceptCommand w).cmd = w := rfl
@[simp] theorem acceptCommand_busy (w : Word) : (s.acceptCommand w).busy = true := rfl
@[simp] theorem acceptCommand_code (w : Word) : (s.acceptCommand w).code = s.code := rfl
@[simp] theorem acceptCommand_result (w : Word) : (s.acceptCommand w).result = s.result := rfl
@[simp] theorem acceptCommand_cfg (w : Word) : (s.acceptCommand w).cfg = s.cfg := rfl
@[simp] theorem acceptCommand_arg0 (w : Word) : (s.acceptCommand w).arg0 = s.arg0 := rfl
@[simp] theorem acceptCommand_arg1 (w : Word) : (s.acceptCommand w).arg1 = s.arg1 := rfl
@[simp] theorem acceptCommand_arg2 (w : Word) : (s.acceptCommand w).arg2 = s.arg2 := rfl
@[simp] theorem acceptCommand_arg3 (w : Word) : (s.acceptCommand w).arg3 = s.arg3 := rfl
@[simp] theorem acceptCommand_disp (w : Word) : (s.acceptCommand w).disp = s.disp := rfl
@[simp] theorem acceptCommand_fb (w : Word) : (s.acceptCommand w).fb = s.fb := rfl
@[simp] theorem acceptCommand_tiles (w : Word) : (s.acceptCommand w).tiles = s.tiles := rfl
@[simp] theorem acceptCommand_dirty (w : Word) : (s.acceptCommand w).dirty = s.dirty := rfl
@[simp] theorem acceptCommand_stk (w : Word) : (s.acceptCommand w).stk = s.stk := rfl
@[simp] theorem acceptCommand_fstk (w : Word) : (s.acceptCommand w).fstk = s.fstk := rfl
@[simp] theorem acceptCommand_busMode (w : Word) : (s.acceptCommand w).busMode = s.busMode := rfl
@[simp] theorem acceptCommand_busLogRev (w : Word) : (s.acceptCommand w).busLogRev = s.busLogRev := rfl
@[simp] theorem acceptCommand_busAnswers (w : Word) : (s.acceptCommand w).busAnswers = s.busAnswers := rfl
@[simp] theorem acceptCommand_pending (w : Word) : (s.acceptCommand w).pending = s.pending := rfl
@[simp] theorem acceptCommand_hostReadsRev (w : Word) : (s.acceptCommand w).hostReadsRev = s.hostReadsRev := rfl
@[simp] theorem acceptCommand_draws (w : Word) : (s.acceptCommand w).draws = s.draws := rfl

/-! ### setCfg -/

@[simp] theorem setCfg_params (c : DispConf) : (s.setCfg c).params = s.params := rfl
@[simp] theorem setCfg_cmd (c : DispConf) : (s.setCfg c).cmd = s.cmd := rfl
@[simp] theorem setCfg_busy (c : DispConf) : (s.setCfg c).busy = s.busy := rfl
@[simp] theorem setCfg_code (c : DispConf) : (s.setCfg c).code = s.code := rfl
@[simp] theorem setCfg_result (c : DispConf) : (s.setCfg c).result = s.result := rfl
@[simp] theorem setCfg_cfg (c : DispConf) : (s.setCfg c).cfg = c := rfl
@[simp] theorem setCfg_arg0 (c : DispConf) : (s.setCfg c).arg0 = s.arg0 := rfl
@[simp] theorem setCfg_arg1 (c : DispConf) : (s.setCfg c).arg1 = s.arg1 := rfl
@[simp] theorem setCfg_arg2 (c : DispConf) : (s.setCfg c).arg2 = s.arg2 := rfl
@[simp] theorem setCfg_arg3 (c : DispConf) : (s.setCfg c).arg3 = s.arg3 := rfl
@[simp] theorem setCfg_disp (c : DispConf) : (s.setCfg c).disp = s.disp := rfl
@[simp] theorem setCfg_fb (c : DispConf) : (s.setCfg c).fb = s.fb := rfl
@[simp] theorem setCfg_tiles (c : DispConf) : (s.setCfg c).tiles = s.tiles := rfl
@[simp] theorem setCfg_dirty (c : DispConf) : (s.setCfg c).dirty = s.dirty := rfl
@[simp] theorem setCfg_stk (c : DispConf) : (s.setCfg c).stk = s.stk := rfl
@[simp] theorem setCfg_fstk (c : DispConf) : (s.setCfg c).fstk = s.fstk := rfl
@[simp] theorem setCfg_busMode (c : DispConf) : (s.setCfg c).busMode = s.busMode := rfl
@[simp] theorem setCfg_busLogRev (c : DispConf) : (s.setCfg c).busLogRev = s.busLogRev := rfl
@[simp] theorem setCfg_busAnswers (c : DispConf) : (s.setCfg c).busAnswers = s.busAnswers := rfl
@[simp] theorem setCfg_pending (c : DispConf) : (s.setCfg c).pending = s.pending := rfl
@[simp] theorem setCfg_hostReadsRev (c : DispConf) : (s.setCfg c).hostReadsRev = s.hostReadsRev := rfl
@[simp] theorem setCfg_draws (c : DispConf) : (s.setCfg c).draws = s.draws := rfl

/-! ### recordRead -/

@[simp] theorem recordRead_params (o : Fin 0x30000) (v : Word) : (s.recordRead o v).params = s.params := rfl
@[simp] theorem recordRead_cmd (o : Fin 0x30000) (v : Word) : (s.recordRead o v).cmd = s.cmd := rfl
@[simp] theorem recordRead_busy (o : Fin 0x30000) (v : Word) : (s.recordRead o v).busy = s.busy := rfl
@[simp] theorem recordRead_code (o : Fin 0x30000) (v : Word) : (s.recordRead o v).code = s.code := rfl
@[simp] theorem recordRead_result (o : Fin 0x30000) (v : Word) : (s.recordRead o v).result = s.result := rfl
@[simp] theorem recordRead_cfg (o : Fin 0x30000) (v : Word) : (s.recordRead o v).cfg = s.cfg := rfl
@[simp] theorem recordRead_arg0 (o : Fin 0x30000) (v : Word) : (s.recordRead o v).arg0 = s.arg0 := rfl
@[simp] theorem recordRead_arg1 (o : Fin 0x30000) (v : Word) : (s.recordRead o v).arg1 = s.arg1 := rfl
@[simp] theorem recordRead_arg2 (o : Fin 0x30000) (v : Word) : (s.recordRead o v).arg2 = s.arg2 := rfl
@[simp] theorem recordRead_arg3 (o : Fin 0x30000) (v : Word) : (s.recordRead o v).arg3 = s.arg3 := rfl
@[simp] theorem recordRead_disp (o : Fin 0x30000) (v : Word) : (s.recordRead o v).disp = s.disp := rfl
@[simp] theorem recordRead_fb (o : Fin 0x30000) (v : Word) : (s.recordRead o v).fb = s.fb := rfl
@[simp] theorem recordRead_tiles (o : Fin 0x30000) (v : Word) : (s.recordRead o v).tiles = s.tiles := rfl
@[simp] theorem pushPending_tiles (e : HostEvent) : (s.pushPending e).tiles = s.tiles := rfl
@[simp] theorem recordRead_dirty (o : Fin 0x30000) (v : Word) : (s.recordRead o v).dirty = s.dirty := rfl
@[simp] theorem recordRead_stk (o : Fin 0x30000) (v : Word) : (s.recordRead o v).stk = s.stk := rfl
@[simp] theorem recordRead_fstk (o : Fin 0x30000) (v : Word) : (s.recordRead o v).fstk = s.fstk := rfl
@[simp] theorem recordRead_busMode (o : Fin 0x30000) (v : Word) : (s.recordRead o v).busMode = s.busMode := rfl
@[simp] theorem recordRead_busLogRev (o : Fin 0x30000) (v : Word) : (s.recordRead o v).busLogRev = s.busLogRev := rfl
@[simp] theorem recordRead_busAnswers (o : Fin 0x30000) (v : Word) : (s.recordRead o v).busAnswers = s.busAnswers := rfl
@[simp] theorem recordRead_pending (o : Fin 0x30000) (v : Word) : (s.recordRead o v).pending = s.pending := rfl
@[simp] theorem recordRead_hostReadsRev (o : Fin 0x30000) (v : Word) : (s.recordRead o v).hostReadsRev = ⟨o, v⟩ :: s.hostReadsRev := rfl
@[simp] theorem recordRead_draws (o : Fin 0x30000) (v : Word) : (s.recordRead o v).draws = s.draws := rfl

/-! ### pushPending -/

@[simp] theorem pushPending_params (e : HostEvent) : (s.pushPending e).params = s.params := rfl
@[simp] theorem pushPending_cmd (e : HostEvent) : (s.pushPending e).cmd = s.cmd := rfl
@[simp] theorem pushPending_busy (e : HostEvent) : (s.pushPending e).busy = s.busy := rfl
@[simp] theorem pushPending_code (e : HostEvent) : (s.pushPending e).code = s.code := rfl
@[simp] theorem pushPending_result (e : HostEvent) : (s.pushPending e).result = s.result := rfl
@[simp] theorem pushPending_cfg (e : HostEvent) : (s.pushPending e).cfg = s.cfg := rfl
@[simp] theorem pushPending_arg0 (e : HostEvent) : (s.pushPending e).arg0 = s.arg0 := rfl
@[simp] theorem pushPending_arg1 (e : HostEvent) : (s.pushPending e).arg1 = s.arg1 := rfl
@[simp] theorem pushPending_arg2 (e : HostEvent) : (s.pushPending e).arg2 = s.arg2 := rfl
@[simp] theorem pushPending_arg3 (e : HostEvent) : (s.pushPending e).arg3 = s.arg3 := rfl
@[simp] theorem pushPending_disp (e : HostEvent) : (s.pushPending e).disp = s.disp := rfl
@[simp] theorem pushPending_fb (e : HostEvent) : (s.pushPending e).fb = s.fb := rfl
@[simp] theorem pushPending_dirty (e : HostEvent) : (s.pushPending e).dirty = s.dirty := rfl
@[simp] theorem pushPending_stk (e : HostEvent) : (s.pushPending e).stk = s.stk := rfl
@[simp] theorem pushPending_fstk (e : HostEvent) : (s.pushPending e).fstk = s.fstk := rfl
@[simp] theorem pushPending_busMode (e : HostEvent) : (s.pushPending e).busMode = s.busMode := rfl
@[simp] theorem pushPending_busLogRev (e : HostEvent) : (s.pushPending e).busLogRev = s.busLogRev := rfl
@[simp] theorem pushPending_busAnswers (e : HostEvent) : (s.pushPending e).busAnswers = s.busAnswers := rfl
@[simp] theorem pushPending_pending (e : HostEvent) : (s.pushPending e).pending = e :: s.pending := rfl
@[simp] theorem pushPending_hostReadsRev (e : HostEvent) : (s.pushPending e).hostReadsRev = s.hostReadsRev := rfl
@[simp] theorem pushPending_draws (e : HostEvent) : (s.pushPending e).draws = s.draws := rfl

/-! ### onlyStatus -/

@[simp] theorem onlyStatus_params (c : Status) : (s.onlyStatus c).params = s.params := rfl
@[simp] theorem onlyStatus_cmd (c : Status) : (s.onlyStatus c).cmd = s.cmd := rfl
@[simp] theorem onlyStatus_busy (c : Status) : (s.onlyStatus c).busy = false := rfl
@[simp] theorem onlyStatus_code (c : Status) : (s.onlyStatus c).code = c := rfl
@[simp] theorem onlyStatus_result (c : Status) : (s.onlyStatus c).result = s.result := rfl
@[simp] theorem onlyStatus_cfg (c : Status) : (s.onlyStatus c).cfg = s.cfg := rfl
@[simp] theorem onlyStatus_arg0 (c : Status) : (s.onlyStatus c).arg0 = s.arg0 := rfl
@[simp] theorem onlyStatus_arg1 (c : Status) : (s.onlyStatus c).arg1 = s.arg1 := rfl
@[simp] theorem onlyStatus_arg2 (c : Status) : (s.onlyStatus c).arg2 = s.arg2 := rfl
@[simp] theorem onlyStatus_arg3 (c : Status) : (s.onlyStatus c).arg3 = s.arg3 := rfl
@[simp] theorem onlyStatus_disp (c : Status) : (s.onlyStatus c).disp = s.disp := rfl
@[simp] theorem onlyStatus_fb (c : Status) : (s.onlyStatus c).fb = s.fb := rfl
@[simp] theorem onlyStatus_tiles (c : Status) : (s.onlyStatus c).tiles = s.tiles := rfl
@[simp] theorem onlyStatus_dirty (c : Status) : (s.onlyStatus c).dirty = s.dirty := rfl
@[simp] theorem onlyStatus_stk (c : Status) : (s.onlyStatus c).stk = s.stk := rfl
@[simp] theorem onlyStatus_fstk (c : Status) : (s.onlyStatus c).fstk = s.fstk := rfl
@[simp] theorem onlyStatus_busMode (c : Status) : (s.onlyStatus c).busMode = s.busMode := rfl
@[simp] theorem onlyStatus_busLogRev (c : Status) : (s.onlyStatus c).busLogRev = s.busLogRev := rfl
@[simp] theorem onlyStatus_busAnswers (c : Status) : (s.onlyStatus c).busAnswers = s.busAnswers := rfl
@[simp] theorem onlyStatus_pending (c : Status) : (s.onlyStatus c).pending = s.pending := rfl
@[simp] theorem onlyStatus_hostReadsRev (c : Status) : (s.onlyStatus c).hostReadsRev = s.hostReadsRev := rfl
@[simp] theorem onlyStatus_draws (c : Status) : (s.onlyStatus c).draws = s.draws := rfl

/-! ### The bus event log in order -/

@[simp] theorem logEvent_busLog (e : BusEvent) : (s.logEvent e).busLog = s.busLog ++ [e] := by
  simp [State.busLog, State.logEvent]
@[simp] theorem finish_busLog (c : Status) : (s.finish c).busLog = s.busLog := rfl
@[simp] theorem setResult_busLog (v : Word) : (s.setResult v).busLog = s.busLog := rfl
@[simp] theorem setFb_busLog (b : Fb) : (s.setFb b).busLog = s.busLog := rfl
@[simp] theorem setCount_busLog (n : Nat) : (s.setCount n).busLog = s.busLog := rfl
@[simp] theorem setTiles_busLog (m : Ram 8) : (s.setTiles m).busLog = s.busLog := rfl
@[simp] theorem setDirtyRam_busLog (m : Ram 1) : (s.setDirtyRam m).busLog = s.busLog := rfl
@[simp] theorem setDisp_busLog (d : Disp) : (s.setDisp d).busLog = s.busLog := rfl
@[simp] theorem setStk_busLog (S : Stack) : (s.setStk S).busLog = s.busLog := rfl
@[simp] theorem setFstk_busLog (S : Stack) : (s.setFstk S).busLog = s.busLog := rfl
@[simp] theorem setBusMode_busLog (b : Bool) : (s.setBusMode b).busLog = s.busLog := rfl
@[simp] theorem dropAnswer_busLog : (s.dropAnswer).busLog = s.busLog := rfl
@[simp] theorem drew_busLog : (s.drew).busLog = s.busLog := rfl
@[simp] theorem acceptCommand_busLog (w : Word) : (s.acceptCommand w).busLog = s.busLog := rfl
@[simp] theorem setCfg_busLog (c : DispConf) : (s.setCfg c).busLog = s.busLog := rfl
@[simp] theorem recordRead_busLog (o : Fin 0x30000) (v : Word) : (s.recordRead o v).busLog = s.busLog := rfl
@[simp] theorem pushPending_busLog (e : HostEvent) : (s.pushPending e).busLog = s.busLog := rfl
@[simp] theorem onlyStatus_busLog (c : Status) : (s.onlyStatus c).busLog = s.busLog := rfl

/-! ### Tiles and dirty bits -/

@[simp] theorem finish_tile (c : Status) (i : Nat) : (s.finish c).tile i = s.tile i := rfl
@[simp] theorem finish_isDirty (c : Status) (i : Nat) : (s.finish c).isDirty i = s.isDirty i := rfl
@[simp] theorem setResult_tile (v : Word) (i : Nat) : (s.setResult v).tile i = s.tile i := rfl
@[simp] theorem setResult_isDirty (v : Word) (i : Nat) : (s.setResult v).isDirty i = s.isDirty i := rfl
@[simp] theorem setFb_tile (b : Fb) (i : Nat) : (s.setFb b).tile i = s.tile i := rfl
@[simp] theorem setFb_isDirty (b : Fb) (i : Nat) : (s.setFb b).isDirty i = s.isDirty i := rfl
@[simp] theorem setCount_tile (n : Nat) (i : Nat) : (s.setCount n).tile i = s.tile i := rfl
@[simp] theorem setCount_isDirty (n : Nat) (i : Nat) : (s.setCount n).isDirty i = s.isDirty i := rfl
@[simp] theorem setTiles_isDirty (m : Ram 8) (i : Nat) : (s.setTiles m).isDirty i = s.isDirty i := rfl
@[simp] theorem setDirtyRam_tile (m : Ram 1) (i : Nat) : (s.setDirtyRam m).tile i = s.tile i := rfl
@[simp] theorem setDisp_tile (d : Disp) (i : Nat) : (s.setDisp d).tile i = s.tile i := rfl
@[simp] theorem setDisp_isDirty (d : Disp) (i : Nat) : (s.setDisp d).isDirty i = s.isDirty i := rfl
@[simp] theorem setStk_tile (S : Stack) (i : Nat) : (s.setStk S).tile i = s.tile i := rfl
@[simp] theorem setStk_isDirty (S : Stack) (i : Nat) : (s.setStk S).isDirty i = s.isDirty i := rfl
@[simp] theorem setFstk_tile (S : Stack) (i : Nat) : (s.setFstk S).tile i = s.tile i := rfl
@[simp] theorem setFstk_isDirty (S : Stack) (i : Nat) : (s.setFstk S).isDirty i = s.isDirty i := rfl
@[simp] theorem setBusMode_tile (b : Bool) (i : Nat) : (s.setBusMode b).tile i = s.tile i := rfl
@[simp] theorem setBusMode_isDirty (b : Bool) (i : Nat) : (s.setBusMode b).isDirty i = s.isDirty i := rfl
@[simp] theorem logEvent_tile (e : BusEvent) (i : Nat) : (s.logEvent e).tile i = s.tile i := rfl
@[simp] theorem logEvent_isDirty (e : BusEvent) (i : Nat) : (s.logEvent e).isDirty i = s.isDirty i := rfl
@[simp] theorem dropAnswer_tile (i : Nat) : (s.dropAnswer).tile i = s.tile i := rfl
@[simp] theorem dropAnswer_isDirty (i : Nat) : (s.dropAnswer).isDirty i = s.isDirty i := rfl
@[simp] theorem drew_tile (i : Nat) : (s.drew).tile i = s.tile i := rfl
@[simp] theorem drew_isDirty (i : Nat) : (s.drew).isDirty i = s.isDirty i := rfl
@[simp] theorem acceptCommand_tile (w : Word) (i : Nat) : (s.acceptCommand w).tile i = s.tile i := rfl
@[simp] theorem acceptCommand_isDirty (w : Word) (i : Nat) : (s.acceptCommand w).isDirty i = s.isDirty i := rfl
@[simp] theorem setCfg_tile (c : DispConf) (i : Nat) : (s.setCfg c).tile i = s.tile i := rfl
@[simp] theorem setCfg_isDirty (c : DispConf) (i : Nat) : (s.setCfg c).isDirty i = s.isDirty i := rfl
@[simp] theorem recordRead_tile (o : Fin 0x30000) (v : Word) (i : Nat) : (s.recordRead o v).tile i = s.tile i := rfl
@[simp] theorem pushPending_tile (e : HostEvent) (i : Nat) : (s.pushPending e).tile i = s.tile i := rfl
@[simp] theorem recordRead_isDirty (o : Fin 0x30000) (v : Word) (i : Nat) : (s.recordRead o v).isDirty i = s.isDirty i := rfl
@[simp] theorem pushPending_isDirty (e : HostEvent) (i : Nat) : (s.pushPending e).isDirty i = s.isDirty i := rfl
@[simp] theorem onlyStatus_tile (c : Status) (i : Nat) : (s.onlyStatus c).tile i = s.tile i := rfl
@[simp] theorem onlyStatus_isDirty (c : Status) (i : Nat) : (s.onlyStatus c).isDirty i = s.isDirty i := rfl
@[simp] theorem setTiles_tile (m : Ram 8) (i : Nat) : (s.setTiles m).tile i = m.read i := rfl
@[simp] theorem setDirtyRam_isDirty (m : Ram 1) (i : Nat) : (s.setDirtyRam m).isDirty i = (m.read i == 1#1) := rfl

/-- `finish` is all that a command that fails at a check does. -/
theorem finish_eq_onlyStatus (c : Status) : s.finish c = s.onlyStatus c := rfl

end Sys2Proof.Machine
end

