-- ==== Sys2Proof/Laws/Bus.lean ====
section
/-! SUPPORT. What the bus procedures can do (20_memory.md R70-R78): inside a held wrap a body sends the writes planned for
it up to the first that fails; an outermost wrap adds one stop. -/

namespace Sys2Proof.Machine

open Sys2Proof

/-- The state after the bus events `evs` inside a held wrap: nothing else has changed but the answers taken. -/
def State.afterEvents (s : State) (evs : List BusEvent) (answers : List BusStatus) : State :=
  { s with busLogRev := evs.reverse ++ s.busLogRev, busAnswers := answers }

@[simp] theorem afterEvents_busLog (s : State) (evs : List BusEvent) (a : List BusStatus) :
    (s.afterEvents evs a).busLog = s.busLog ++ evs := by
  simp [State.afterEvents, State.busLog]

/-- What a body run in state `s` has done: it has sent the planned writes up to the first that failed, and changed
nothing else. -/
def Sends (s : State) (ws : List (List Byte)) (r : State × BusStatus) : Prop :=
  ∃ evs answers, SentBy s.disp.conf.addr ws evs r.2 ∧ r.1 = s.afterEvents evs answers

theorem sends_nothing (s : State) : Sends s [] (nothingSent s) :=
  ⟨[], s.busAnswers, .inl ⟨rfl, rfl⟩, rfl⟩

theorem sends_busWrite (s : State) (h : s.busMode = false) (bytes : List Byte) :
    Sends s [bytes] (busWrite s.disp.conf.addr bytes s) := by
  refine ⟨[.write s.disp.conf.addr bytes true (s.nextAnswer s.disp.conf.addr bytes true)], s.busAnswers.tail, ?_, ?_⟩
  · by_cases hok : s.nextAnswer s.disp.conf.addr bytes true = .ok
    · exact .inl ⟨by simp [busWrite, h, hok], by simp [okWrite, hok]⟩
    · exact .inr ⟨by simp [busWrite, h, hok], [], bytes, [], rfl, by simp [busWrite, h]⟩
  · simp [busWrite, h, State.afterEvents, State.logEvent, State.dropAnswer]

theorem sentBy_append_ok {addr : BusAddr} {ws ws' : List (List Byte)} {evs evs' : List BusEvent} {st : BusStatus}
    (h : SentBy addr ws evs .ok) (h' : SentBy addr ws' evs' st) : SentBy addr (ws ++ ws') (evs ++ evs') st := by
  rcases h with ⟨-, rfl⟩ | ⟨hne, -⟩
  · rcases h' with ⟨rfl, rfl⟩ | ⟨hne, sent, w, rest, rfl, rfl⟩
    · exact .inl ⟨rfl, by simp⟩
    · exact .inr ⟨hne, ws ++ sent, w, rest, by simp, by simp⟩
  · exact absurd rfl hne

theorem sentBy_append_fail {addr : BusAddr} {ws : List (List Byte)} {evs : List BusEvent} {st : BusStatus}
    (h : SentBy addr ws evs st) (hne : st ≠ .ok) (ws' : List (List Byte)) : SentBy addr (ws ++ ws') evs st := by
  rcases h with ⟨h, -⟩ | ⟨-, sent, w, rest, rfl, rfl⟩
  · exact absurd h hne
  · exact .inr ⟨hne, sent, w, rest ++ ws', by simp, rfl⟩

/-- Steps in order send their writes in order, and stop at the first that fails. -/
theorem sends_andThen {s : State} {p q : BusProc} {ws ws' : List (List Byte)} (hp : Sends s ws (p s))
    (hq : ∀ evs answers, Sends (s.afterEvents evs answers) ws' (q (s.afterEvents evs answers))) :
    Sends s (ws ++ ws') (andThen p q s) := by
  obtain ⟨evs, answers, hsent, hst⟩ := hp
  by_cases hok : (p s).2 = .ok
  · rw [hok] at hsent
    obtain ⟨evs', answers', hsent', hst'⟩ := hq evs answers
    have hrun : andThen p q s = q (s.afterEvents evs answers) := by simp only [andThen, hok, hst]
    refine ⟨evs ++ evs', answers', ?_, ?_⟩
    · rw [hrun]
      exact sentBy_append_ok hsent hsent'
    · rw [hrun, hst']
      simp [State.afterEvents]
  · have hrun : andThen p q s = p s := by simp only [andThen]
    rw [hrun]
    exact ⟨evs, answers, sentBy_append_fail hsent hok ws', hst⟩

/-- A command of n bytes is n writes. -/
theorem sends_cmdBytes (bs : List Byte) (s : State) (h : s.busMode = false) :
    Sends s (cmdWrites s.params bs) (cmdBytes bs s) := by
  induction bs generalizing s with
  | nil => exact sends_nothing s
  | cons b bs ih => exact sends_andThen (ws := [_]) (sends_busWrite s h _) fun evs answers => ih _ h

/-- A nested wrap changes nothing: it emits no stop (20_memory.md R74, 90_conflicts.md C1). -/
theorem sends_seq_nested {s : State} {body : BusProc} {ws : List (List Byte)} (h : s.busMode = false)
    (hb : Sends s ws (body s)) : Sends s ws (seq body s) := by
  have hs : s.setBusMode false = s := by cases s; simp_all [State.setBusMode]
  obtain ⟨evs, answers, hsent, hst⟩ := hb
  refine ⟨evs, answers, by simpa only [seq, hs] using hsent, ?_⟩
  simp only [seq, seqExit, hs, h, hst]
  cases s; simp_all [State.setBusMode, State.afterEvents]

/-- An outermost wrap: the writes of its body, then one stop, with BUSMODE restored (20_memory.md R74, R78). -/
theorem seq_outer {s : State} {body : BusProc} {ws : List (List Byte)} (h : s.busMode = true)
    (hb : Sends (s.setBusMode false) ws (body (s.setBusMode false))) :
    ∃ evs answers, SentBy s.disp.conf.addr ws evs (seq body s).2 ∧
      (seq body s).1 = s.afterEvents (evs ++ [.stop]) answers := by
  obtain ⟨evs, answers, hsent, hst⟩ := hb
  refine ⟨evs, answers, hsent, ?_⟩
  simp only [seq, seqExit, h, if_true, hst, busStop]
  cases s; simp_all [State.setBusMode, State.afterEvents, State.logEvent]

end Sys2Proof.Machine
end

