-- ==== Sys2Proof/Laws/Config.lean ====
section
/-! SUPPORT. The parameters of this machine meet the constraints of 00_scope.md R6 and R7. -/

namespace Sys2Proof

theorem Config.params_wf : Config.params.wf := by
  refine ⟨?_, ?_, ?_, ?_, ?_, ?_⟩
  · have h := Config.typeDataGap.isLt
    intro he
    have : Config.typeCmd + BitVec.ofNat 8 (Config.typeDataGap.val + 1) = Config.typeCmd := he
    have h2 := congrArg BitVec.toNat this
    simp only [BitVec.toNat_add, BitVec.toNat_ofNat] at h2
    have := Config.typeCmd.isLt
    omega
  · simp [Config.params]
  · have := Nat.mod_lt Config.fbMaxTilesSeed (show 0 < 15361 by decide)
    simp only [Config.params]
    omega
  · simp [Config.params]
  · have := Nat.mod_lt Config.stackMaxEntriesSeed (show 0 < 2 ^ 32 - 1 by decide)
    simp only [Config.params]
    omega
  · simp [Config.params]

end Sys2Proof
end

