-- ==== Sys2Proof/Laws/Ram.lean ====
section
/-! SUPPORT. The laws of the RAMs: a read after a write, what a write leaves alone, and that every operation keeps the
canonical form. -/

namespace Sys2Proof.Machine

open Sys2Proof

variable {w : Nat}

theorem lookupCell_putCell_same (i : Nat) (v : BitVec w) (l : List (Nat × BitVec w)) :
    lookupCell i (putCell i v l) = some v := by
  induction l with
  | nil => simp [putCell, lookupCell]
  | cons c rest ih =>
    obtain ⟨a, b⟩ := c
    simp only [putCell]
    split
    · simp [lookupCell]
    · split
      · simp [lookupCell]
      · have : a ≠ i := by omega
        simp [lookupCell, this, ih]

theorem lookupCell_putCell_other {i j : Nat} (h : j ≠ i) (v : BitVec w) (l : List (Nat × BitVec w)) :
    lookupCell j (putCell i v l) = lookupCell j l := by
  induction l with
  | nil => simp [putCell, lookupCell, Ne.symm h]
  | cons c rest ih =>
    obtain ⟨a, b⟩ := c
    simp only [putCell]
    split
    · simp [lookupCell, Ne.symm h]
    · split
      · subst_vars
        simp [lookupCell, Ne.symm h]
      · simp only [lookupCell, ih]

theorem lookupCell_dropCell_same (i : Nat) (l : List (Nat × BitVec w)) : lookupCell i (dropCell i l) = none := by
  induction l with
  | nil => rfl
  | cons c rest ih =>
    obtain ⟨a, b⟩ := c
    simp only [dropCell]
    split
    · exact ih
    · rename_i h
      simp [lookupCell, h, ih]

theorem lookupCell_dropCell_other {i j : Nat} (h : j ≠ i) (l : List (Nat × BitVec w)) :
    lookupCell j (dropCell i l) = lookupCell j l := by
  induction l with
  | nil => rfl
  | cons c rest ih =>
    obtain ⟨a, b⟩ := c
    simp only [dropCell]
    split
    · subst_vars
      simp [lookupCell, ih, Ne.symm h]
    · simp only [lookupCell, ih]

/-- A read after a write to the same cell gives the value written. -/
@[simp] theorem Ram.read_write_same (m : Ram w) (i : Nat) (v : BitVec w) : (m.write i v).read i = v := by
  unfold Ram.write
  split
  · rename_i h
    simp [Ram.read, lookupCell_dropCell_same, h, Ram.unlisted]
  · simp [Ram.read, lookupCell_putCell_same]

/-- A write leaves every other cell alone. -/
theorem Ram.read_write_other (m : Ram w) {i j : Nat} (h : j ≠ i) (v : BitVec w) :
    (m.write i v).read j = m.read j := by
  unfold Ram.write
  split
  · simp [Ram.read, lookupCell_dropCell_other h, Ram.unlisted]
  · simp [Ram.read, lookupCell_putCell_other h, Ram.unlisted]

/-- What a write does to every cell, in one equation. -/
theorem Ram.read_write (m : Ram w) (i j : Nat) (v : BitVec w) :
    (m.write i v).read j = if j = i then v else m.read j := by
  split
  · subst_vars; simp
  · exact m.read_write_other ‹_› v

@[simp] theorem Ram.zeroed_read (i : Nat) : (Ram.zeroed w).read i = 0 := rfl

theorem lookupCell_range_map (n i : Nat) (v : BitVec w) :
    lookupCell i ((List.range n).map fun k => (k, v)) = if i < n then some v else none := by
  induction n with
  | zero => simp [lookupCell]
  | succ n ih =>
    have happ : ∀ l l' : List (Nat × BitVec w),
        lookupCell i (l ++ l') = (lookupCell i l).or (lookupCell i l') := by
      intro l l'
      induction l with
      | nil => simp [lookupCell]
      | cons c rest ih' =>
        obtain ⟨a, b⟩ := c
        simp only [List.cons_append, lookupCell]
        split <;> simp [ih']
    rw [List.range_succ, List.map_append, happ, ih]
    by_cases h : i < n
    · have : i < n + 1 := by omega
      simp [h, this]
    · by_cases h' : i = n
      · subst h'
        simp [lookupCell]
      · have : ¬ i < n + 1 := by omega
        have h'' : n ≠ i := fun e => h' e.symm
        simp [h, this, lookupCell, h'']

/-- FB_CLEAR's dirty RAM: cell `i` is 1 exactly below `n`. -/
@[simp] theorem Ram.onesBelow_read (n i : Nat) : (Ram.onesBelow n).read i = if i < n then 1#1 else 0#1 := by
  simp only [Ram.onesBelow, Ram.read, lookupCell_range_map, Ram.unlisted]
  split <;> rfl

/-! ## The canonical form -/

theorem mem_putCell {c : Nat × BitVec w} {i : Nat} {v : BitVec w} {l : List (Nat × BitVec w)}
    (h : c ∈ putCell i v l) : c = (i, v) ∨ c ∈ l := by
  induction l with
  | nil => simpa [putCell] using h
  | cons d rest ih =>
    obtain ⟨a, b⟩ := d
    simp only [putCell] at h
    split at h
    · simpa using h
    · split at h
      · rcases List.mem_cons.1 h with h | h
        · exact .inl h
        · exact .inr (List.mem_cons_of_mem _ h)
      · rcases List.mem_cons.1 h with h | h
        · exact .inr (by simp [h])
        · rcases ih h with h | h
          · exact .inl h
          · exact .inr (List.mem_cons_of_mem _ h)

theorem mem_dropCell {c : Nat × BitVec w} {i : Nat} {l : List (Nat × BitVec w)} (h : c ∈ dropCell i l) : c ∈ l := by
  induction l with
  | nil => simp [dropCell] at h
  | cons d rest ih =>
    obtain ⟨a, b⟩ := d
    simp only [dropCell] at h
    split at h
    · exact List.mem_cons_of_mem _ (ih h)
    · rcases List.mem_cons.1 h with h | h
      · simp [h]
      · exact List.mem_cons_of_mem _ (ih h)

theorem putCell_sorted (i : Nat) (v : BitVec w) (l : List (Nat × BitVec w))
    (h : l.Pairwise (fun c d => c.1 < d.1)) : (putCell i v l).Pairwise (fun c d => c.1 < d.1) := by
  induction l with
  | nil => simp [putCell]
  | cons d rest ih =>
    obtain ⟨a, b⟩ := d
    have hrest := (List.pairwise_cons.1 h).2
    have hhead := (List.pairwise_cons.1 h).1
    simp only [putCell]
    split
    · rename_i hlt
      refine List.pairwise_cons.2 ⟨?_, h⟩
      intro c hc
      rcases List.mem_cons.1 hc with hc | hc
      · simpa [hc] using hlt
      · exact lt_trans hlt (hhead c hc)
    · split
      · subst_vars
        exact List.pairwise_cons.2 ⟨hhead, hrest⟩
      · refine List.pairwise_cons.2 ⟨?_, ih hrest⟩
        intro c hc
        rcases mem_putCell hc with hc | hc
        · subst hc
          show a < i
          omega
        · exact hhead c hc

theorem dropCell_sorted (i : Nat) (l : List (Nat × BitVec w))
    (h : l.Pairwise (fun c d => c.1 < d.1)) : (dropCell i l).Pairwise (fun c d => c.1 < d.1) := by
  induction l with
  | nil => simp [dropCell]
  | cons d rest ih =>
    obtain ⟨a, b⟩ := d
    have hrest := (List.pairwise_cons.1 h).2
    simp only [dropCell]
    split
    · exact ih hrest
    · exact List.pairwise_cons.2 ⟨fun c hc => (List.pairwise_cons.1 h).1 c (mem_dropCell hc), ih hrest⟩

/-- A write keeps the canonical form. -/
theorem Ram.write_wf {m : Ram w} (h : m.wf) (i : Nat) (v : BitVec w) : (m.write i v).wf := by
  unfold Ram.write
  split
  · exact ⟨dropCell_sorted i m.cells h.1, fun c hc => h.2 c (mem_dropCell hc)⟩
  · rename_i hv
    refine ⟨putCell_sorted i v m.cells h.1, fun c hc => ?_⟩
    rcases mem_putCell hc with hc | hc
    · subst hc
      exact hv
    · exact h.2 c hc

theorem Ram.zeroed_wf : (Ram.zeroed w).wf := by simp [Ram.wf, Ram.zeroed]

theorem Ram.unspecified_wf (epoch : Nat) : (Ram.unspecified w epoch).wf := by simp [Ram.wf, Ram.unspecified]

theorem Ram.onesBelow_wf (n : Nat) : (Ram.onesBelow n).wf := by
  refine ⟨?_, ?_⟩
  · simp only [Ram.onesBelow]
    exact List.pairwise_map.2 List.pairwise_lt_range
  · intro c hc
    simp only [Ram.onesBelow, List.mem_map] at hc
    obtain ⟨k, -, rfl⟩ := hc
    simp [Ram.onesBelow, Ram.unlisted]

theorem lookupCell_mem {i : Nat} {v : BitVec w} {l : List (Nat × BitVec w)} (h : lookupCell i l = some v) :
    (i, v) ∈ l := by
  induction l with
  | nil => simp [lookupCell] at h
  | cons c rest ih =>
    obtain ⟨a, b⟩ := c
    simp only [lookupCell] at h
    split at h
    · simp_all
    · exact List.mem_cons_of_mem _ (ih h)

theorem lookupCell_of_mem {c : Nat × BitVec w} {l : List (Nat × BitVec w)}
    (hl : l.Pairwise (fun c d => c.1 < d.1)) (h : c ∈ l) : lookupCell c.1 l = some c.2 := by
  induction l with
  | nil => cases h
  | cons d rest ih =>
    obtain ⟨a, b⟩ := d
    obtain ⟨hhead, hrest⟩ := List.pairwise_cons.1 hl
    rcases List.mem_cons.1 h with h | h
    · simp [h, lookupCell]
    · have : a ≠ c.1 := Nat.ne_of_lt (hhead c h)
      simp [lookupCell, this, ih hrest h]

/-- A listed cell of a canonical RAM is exactly one that reads other than an unlisted one. -/
theorem Ram.mem_cells_iff {m : Ram w} (h : m.wf) (i : Nat) (v : BitVec w) :
    (i, v) ∈ m.cells ↔ m.read i = v ∧ v ≠ m.unlisted i := by
  constructor
  · intro hc
    exact ⟨by simp [Ram.read, lookupCell_of_mem h.1 hc], h.2 _ hc⟩
  · rintro ⟨hr, hv⟩
    unfold Ram.read at hr
    cases hl : lookupCell i m.cells with
    | none => simp [hl] at hr; exact absurd hr.symm hv
    | some u => simp [hl] at hr; subst hr; exact lookupCell_mem hl

/-- Equal memories are equal data: two canonical RAMs with the same reading of unlisted cells and the same contents are
the same. -/
theorem Ram.eq_of_read {m k : Ram w} (hm : m.wf) (hk : k.wf) (hf : m.fill = k.fill)
    (h : ∀ i, m.read i = k.read i) : m = k := by
  have hu : ∀ i, m.unlisted i = k.unlisted i := fun i => by simp [Ram.unlisted, hf]
  have hmem : ∀ c, c ∈ m.cells ↔ c ∈ k.cells := by
    rintro ⟨i, v⟩
    rw [Ram.mem_cells_iff hm, Ram.mem_cells_iff hk, h, hu]
  have hnd : ∀ {l : List (Nat × BitVec w)}, l.Pairwise (fun c d => c.1 < d.1) → l.Nodup := fun hl =>
    hl.imp fun hlt he => by subst he; exact lt_irrefl _ hlt
  have hperm : m.cells.Perm k.cells := (List.perm_ext_iff_of_nodup (hnd hm.1) (hnd hk.1)).2 hmem
  have hcells : m.cells = k.cells :=
    hperm.eq_of_pairwise (fun a b _ _ hab hba => absurd hab (lt_asymm hba)) hm.1 hk.1
  cases m; cases k; simp_all

/-- The memories right after reset are canonical: nothing is listed. -/
theorem reset_rams_wf : State.reset.tiles.wf ∧ State.reset.dirty.wf := by
  constructor <;> exact ⟨List.Pairwise.nil, fun c hc => by cases hc⟩

end Sys2Proof.Machine
end

