-- ==== Sys2Proof/Laws/Host.lean ====
section
/-! SUPPORT. Whose turn a step is, and what the host's actions can do (60_exceptions.md R274, R275). -/

namespace Sys2Proof.Machine

open Sys2Proof

/-- It is the host's turn exactly when an action is pending and either no command is in flight or the action is early. -/
theorem hostTurn_eq_some {s t : State} {e : HostEvent} :
    s.hostTurn = some (e, t) ↔
      ∃ rest, s.pending = e :: rest ∧ (s.busy = false ∨ e.early = true) ∧ t = { s with pending := rest } := by
  unfold State.hostTurn
  cases hp : s.pending with
  | nil =>
    constructor
    · intro h; cases h
    · rintro ⟨_, h, _⟩; cases h
  | cons a rest =>
    constructor
    · intro h
      dsimp only at h
      by_cases hw : (s.busy && !a.early) = true
      · rw [if_pos hw] at h
        cases h
      · rw [if_neg hw] at h
        cases h
        refine ⟨rest, rfl, ?_, rfl⟩
        cases hb : s.busy
        · exact .inl rfl
        · exact .inr (by simpa [hb] using hw)
    · rintro ⟨r, hr, hturn, rfl⟩
      obtain ⟨rfl, rfl⟩ := List.cons.inj hr
      have hw : ¬ (s.busy && !a.early) = true := by rcases hturn with h | h <;> rw [h] <;> simp
      exact if_neg hw

/-- A step is the host's action, the engine's command, or nothing. -/
theorem step_cases (s : State) :
    (∃ e t, s.hostTurn = some (e, t) ∧ step s = hostStep e t) ∨
    (s.hostTurn = none ∧ s.busy = true ∧ step s = runCommand s) ∨
    (s.hostTurn = none ∧ s.busy = false ∧ step s = .next s) := by
  unfold step
  cases h : s.hostTurn with
  | some p => exact .inl ⟨p.1, p.2, rfl, rfl⟩
  | none => cases hb : s.busy <;> simp

/-- The engine's step runs the decoded command, or finishes INVALID_ARGUMENT. -/
theorem runCommand_cases (s : State) :
    (∃ i, decode s.cmd = .ok i ∧ runCommand s = exec i s) ∨
    (∃ e, decode s.cmd = .error e ∧ runCommand s = .next (s.finish .invalidArgument)) := by
  unfold runCommand
  cases h : decode s.cmd with
  | ok i => exact .inl ⟨i, rfl, rfl⟩
  | error e => exact .inr ⟨e, rfl, rfl⟩

/-- What a host action that is not refused does. -/
theorem hostStep_next {e : HostEvent} {s t : State} (h : hostStep e s = .next t) :
    (∃ off, e.action = .read off 4 ∧ off.val % 4 = 0 ∧ t = s.hostRead off) ∨
    (∃ off v, e.action = .write off 4 v ∧ off.val % 4 = 0 ∧ t = s.hostWrite off v) ∨
    (∃ k, e.action = .wait k ∧ t = s.pollStatus k) ∨
    (e.action = .reset ∧ s.busy = false ∧ t = s.applyReset) := by
  have hal : ∀ (off : Fin 0x30000) (w : Nat), wordAligned off w = true → w = 4 ∧ off.val % 4 = 0 := by
    intro off w hw
    simpa [wordAligned] using hw
  unfold hostStep at h
  split at h
  · split at h
    · rename_i hw
      obtain ⟨rfl, hoff⟩ := hal _ _ hw
      cases h
      exact .inl ⟨_, by assumption, hoff, rfl⟩
    · cases h
  · split at h
    · rename_i hw
      obtain ⟨rfl, hoff⟩ := hal _ _ hw
      cases h
      exact .inr (.inl ⟨_, _, by assumption, hoff, rfl⟩)
    · cases h
  · cases h
    exact .inr (.inr (.inl ⟨_, by assumption, rfl⟩))
  · split at h
    · cases h
    · rename_i hb
      cases h
      exact .inr (.inr (.inr ⟨by assumption, by simpa using hb, rfl⟩))

/-- An address is the DCUE's exactly when it is `DCUE_BASE` plus an offset of its host space (20_memory.md R60). -/
theorem offsetOf_eq_some {p : Params} {addr : Nat} {off : Fin 0x30000} :
    offsetOf p addr = some off ↔ addr = hostAddr p off := by
  have := off.isLt
  simp only [offsetOf, hostAddr]
  split
  · rename_i h
    simp only [Option.some.injEq, Fin.ext_iff]
    omega
  · rename_i h
    simp only [reduceCtorEq, false_iff]
    omega

@[simp] theorem memRead_hostAddr (p : Params) (off : Fin 0x30000) (width : Nat) (early : Bool) :
    memRead p (hostAddr p off) width early = some ⟨.read off width, early⟩ := by
  simp [memRead, offsetOf_eq_some.mpr rfl]

@[simp] theorem memWrite_hostAddr (p : Params) (off : Fin 0x30000) (width : Nat) (v : Word) (early : Bool) :
    memWrite p (hostAddr p off) width v early = some ⟨.write off width v, early⟩ := by
  simp [memWrite, offsetOf_eq_some.mpr rfl]

/-- The region of a register's offset is that register (10_state.md R20, 20_memory.md R61). -/
theorem regionOf_regOffset (r : Reg) : regionOf (regOffset r) = .reg r := by
  cases r <;> decide

/-- Bit 31 of STATUS is BUSY (10_state.md R22). -/
theorem readWord_status_busy (s : State) : (s.readWord (regOffset .status)).getLsbD 31 = s.busy := by
  rw [State.readWord, regionOf_regOffset]
  cases hb : s.busy <;> cases hc : s.code <;> simp [State.readReg, State.statusWord, hb, hc, statusByte]

/-- All that a turn of the WAIT loop does: it reads STATUS, and goes on exactly while BUSY = 1. -/
theorem pollStatus_eq (s : State) (k : Nat) :
    s.pollStatus k =
      if s.busy then (s.recordRead (regOffset .status) (s.readWord (regOffset .status))).pushPending (waitEvent (k - 1))
      else s.recordRead (regOffset .status) (s.readWord (regOffset .status)) := by
  simp only [State.pollStatus, readWord_status_busy]

theorem regionOf_tileOffset (i : Fin 16384) : regionOf (tileOffset i) = .tile i.val := by
  have := i.isLt
  have h1 : ¬ 0x10000 + 4 * i.val < 0x10000 := by omega
  have h2 : 0x10000 + 4 * i.val < 0x20000 := by omega
  have h3 : (0x10000 + 4 * i.val - 0x10000) / 4 = i.val := by omega
  simp only [regionOf, tileOffset, h1, h2, h3, if_true, if_false]

theorem regionOf_dirtyOffset (i : Fin 16384) : regionOf (dirtyOffset i) = .dirty i.val := by
  have := i.isLt
  have h1 : ¬ 0x20000 + 4 * i.val < 0x10000 := by omega
  have h2 : ¬ 0x20000 + 4 * i.val < 0x20000 := by omega
  have h3 : (0x20000 + 4 * i.val - 0x20000) / 4 = i.val := by omega
  simp only [regionOf, dirtyOffset, h1, h2, h3, if_false]

end Sys2Proof.Machine
end

