-- ==== Sys2Proof/Laws/Panel.lean ====
section
/-! SUPPORT. What a data byte and an event can do to the reference panel (20_memory.md R87-R89). -/

namespace Sys2Proof.Machine

open Sys2Proof

/-! ### panelData -/

@[simp] theorem panelData_gddram (p : Panel) (b : Byte) :
    (panelData p b).gddram = p.gddram.setIfInBounds p.index b := rfl
@[simp] theorem panelData_colPtr (p : Panel) (b : Byte) : (panelData p b).colPtr = p.advance.1 := rfl
@[simp] theorem panelData_pagePtr (p : Panel) (b : Byte) : (panelData p b).pagePtr = p.advance.2 := rfl
@[simp] theorem panelData_amode (p : Panel) (b : Byte) : (panelData p b).amode = p.amode := rfl
@[simp] theorem panelData_colStart (p : Panel) (b : Byte) : (panelData p b).colStart = p.colStart := rfl
@[simp] theorem panelData_colEnd (p : Panel) (b : Byte) : (panelData p b).colEnd = p.colEnd := rfl
@[simp] theorem panelData_pageStart (p : Panel) (b : Byte) : (panelData p b).pageStart = p.pageStart := rfl
@[simp] theorem panelData_pageEnd (p : Panel) (b : Byte) : (panelData p b).pageEnd = p.pageEnd := rfl
@[simp] theorem panelData_on (p : Panel) (b : Byte) : (panelData p b).on = p.on := rfl
@[simp] theorem panelData_segRemap (p : Panel) (b : Byte) : (panelData p b).segRemap = p.segRemap := rfl
@[simp] theorem panelData_comRemap (p : Panel) (b : Byte) : (panelData p b).comRemap = p.comRemap := rfl
@[simp] theorem panelData_pending (p : Panel) (b : Byte) : (panelData p b).pending = p.pending := rfl

/-- In horizontal mode the pointers advance as R88 says. -/
theorem Panel.advance_horizontal (p : Panel) (h : p.amode = 0) :
    p.advance =
      if p.colPtr = p.colEnd then (p.colStart, if p.pagePtr = p.pageEnd then p.pageStart else p.pagePtr + 1)
      else (p.colPtr + 1, p.pagePtr) := by simp [Panel.advance, h]

/-- The byte under the pointers is in the GDDRAM. -/
theorem Panel.index_lt (p : Panel) : p.index < 1024 := by
  have h1 := p.pagePtr.isLt
  have h2 := p.colPtr.isLt
  unfold Panel.index
  omega

/-! ### panelModelRun and panelRun -/

@[simp] theorem panelModelRun_nil {σ : Type} (M : PanelModel σ) (p : σ) : panelModelRun M [] p = p := rfl
@[simp] theorem panelModelRun_cons {σ : Type} (M : PanelModel σ) (e : BusEvent) (d : Bool) (l : List (BusEvent × Bool))
    (p : σ) : panelModelRun M ((e, d) :: l) p = panelModelRun M l (M d p e) := rfl

/-- Two lists of events one after the other. -/
theorem panelModelRun_append {σ : Type} (M : PanelModel σ) (l k : List (BusEvent × Bool)) (p : σ) :
    panelModelRun M (l ++ k) p = panelModelRun M k (panelModelRun M l p) := by
  induction l generalizing p with
  | nil => rfl
  | cons e l ih => exact ih (M e.2 p e.1)

@[simp] theorem panelRun_nil (ps : Params) (a : BusAddr) (p : Panel) : panelRun ps a [] p = p := rfl
@[simp] theorem panelRun_cons (ps : Params) (a : BusAddr) (e : BusEvent) (d : Bool) (l : List (BusEvent × Bool))
    (p : Panel) : panelRun ps a ((e, d) :: l) p = panelRun ps a l (panelEvent ps a d p e) := rfl

/-- With no event in the log no controller has changed. -/
theorem State.farEnd_nil {σ : Type} (s : State) (M : PanelModel σ) (d : Nat → Bool) (p : σ) (h : s.busLog = []) :
    s.farEnd M d p = p := by simp [State.farEnd, h]

/-! ### panelEvent -/

@[simp] theorem panelEvent_stop (ps : Params) (a : BusAddr) (d : Bool) (p : Panel) : panelEvent ps a d p .stop = p := rfl

/-- A command byte answered OK reaches the parser. -/
theorem panelEvent_command (ps : Params) (a : BusAddr) (d h : Bool) (p : Panel) (b : Byte) :
    panelEvent ps a d p (.write a [ps.typeCmd, b] h .ok) = panelParse p b := by simp [panelEvent]

/-- A data byte answered OK is written. -/
theorem panelEvent_data (ps : Params) (a : BusAddr) (d h : Bool) (p : Panel) (b : Byte) (hne : ps.typeData ≠ ps.typeCmd) :
    panelEvent ps a d p (.write a [ps.typeData, b] h .ok) = panelData p b := by simp [panelEvent, hne]

end Sys2Proof.Machine
end

