-- ==== Sys2Proof/Laws/PerInstr.lean ====
section
/-! SUPPORT. Statements made instruction by instruction about the commands as syntax. -/

namespace Sys2Proof.Laws.EncodedWord

open Sys2Proof

/-- The word of a command meets every requirement of 30_encoding.md R101-R104. -/
def Statement (i : Instr) : Prop := (RawCommand.ofWord (encode i)).wf = true

theorem fbCreate : Statement .fbCreate := by unfold Statement; decide
theorem fbClear : Statement .fbClear := by unfold Statement; decide
theorem fbSetPixel (v : Bool) : Statement (.fbSetPixel v) := by unfold Statement; cases v <;> decide
theorem fbGetPixel : Statement .fbGetPixel := by unfold Statement; decide
theorem fbDestroy : Statement .fbDestroy := by unfold Statement; decide
theorem dispInit : Statement .dispInit := by unfold Statement; decide
theorem dispOn (v : Bool) : Statement (.dispOn v) := by unfold Statement; cases v <;> decide
theorem dispUpdate : Statement .dispUpdate := by unfold Statement; decide
theorem dispUpdateAll : Statement .dispUpdateAll := by unfold Statement; decide
theorem dispUpdateDiff : Statement .dispUpdateDiff := by unfold Statement; decide
theorem dispSetColRange : Statement .dispSetColRange := by unfold Statement; decide
theorem dispSetPageRange : Statement .dispSetPageRange := by unfold Statement; decide
theorem drawLine (v : Bool) : Statement (.drawLine v) := by unfold Statement; cases v <;> decide
theorem drawRect (v : Bool) : Statement (.drawRect v) := by unfold Statement; cases v <;> decide
theorem drawCircle (v : Bool) : Statement (.drawCircle v) := by unfold Statement; cases v <;> decide
theorem drawEllipseRect (v : Bool) : Statement (.drawEllipseRect v) := by unfold Statement; cases v <;> decide
theorem drawFill (v m : Bool) : Statement (.drawFill v m) := by unfold Statement; cases v <;> cases m <;> decide
theorem stkAlloc : Statement .stkAlloc := by unfold Statement; decide
theorem stkPush : Statement .stkPush := by unfold Statement; decide
theorem stkPop : Statement .stkPop := by unfold Statement; decide
theorem stkDealloc : Statement .stkDealloc := by unfold Statement; decide

end Sys2Proof.Laws.EncodedWord
end

