-- ==== Sys2Proof/Laws/Pixel.lean ====
section
/-! SUPPORT. What the pixel procedures can do (40_framebuffer.md R131, R132). -/

namespace Sys2Proof.Machine

open Sys2Proof

@[simp] theorem setTile_tile (s : State) (i j : Nat) (b : Byte) :
    (s.setTile i b).tile j = if j = i then b else s.tile j := by
  simp [State.setTile, State.tile, Ram.read_write]

@[simp] theorem setDirty_isDirty (s : State) (i j : Nat) (d : Bool) :
    (s.setDirty i d).isDirty j = if j = i then d else s.isDirty j := by
  simp only [State.setDirty, setDirtyRam_isDirty, Ram.read_write]
  split
  · cases d <;> rfl
  · rfl

@[simp] theorem setTile_isDirty (s : State) (i j : Nat) (b : Byte) :
    (s.setTile i b).isDirty j = s.isDirty j := rfl

@[simp] theorem setDirty_tile (s : State) (i j : Nat) (d : Bool) : (s.setDirty i d).tile j = s.tile j := rfl

@[simp] theorem markDirty_tile (s : State) (i j : Nat) : (s.markDirty i).tile j = s.tile j := by
  unfold State.markDirty
  split <;> rfl

@[simp] theorem markDirty_isDirty (s : State) (i j : Nat) :
    (s.markDirty i).isDirty j = (s.isDirty j || decide (j = i)) := by
  unfold State.markDirty
  by_cases h : s.isDirty i = true
  · by_cases hj : j = i
    · simp [h, hj]
    · simp [h, hj]
  · by_cases hj : j = i <;> simp [h, hj]

theorem markDirty_count (s : State) (i : Nat) :
    (s.markDirty i).fb.count = s.fb.count + if s.isDirty i then 0 else 1 := by
  unfold State.markDirty
  by_cases h : s.isDirty i = true <;> simp [h]

/-- The bits of a tile with one bit written. -/
theorem withTileBit_getLsbD (t : Byte) {n : Nat} (hn : n < 8) (k : Nat) (v : Bool) :
    (withTileBit t n v).getLsbD k = if k = n then v else t.getLsbD k := by
  have h1 : (1#8 <<< n).getLsbD k = decide (k = n) := by
    rw [BitVec.getLsbD_shiftLeft]
    by_cases hk : k = n
    · subst hk; simp [hn]
    · by_cases hlt : k < n
      · simp [hlt, hk]
      · have : k - n ≠ 0 := by omega
        simp [hk, hlt, BitVec.getLsbD_one, this]
  unfold withTileBit
  cases v
  · simp only [Bool.false_eq_true, if_false, BitVec.getLsbD_and, BitVec.getLsbD_not, h1]
    by_cases hk : k = n
    · simp [hk]
    · by_cases hk8 : k < 8
      · simp [hk, hk8]
      · simp [hk, BitVec.getLsbD_of_ge t k (by omega)]
  · simp only [if_true, BitVec.getLsbD_or, h1]
    by_cases hk : k = n <;> simp [hk]

/-- The state after a pixel whose value changes. -/
def pixelFlipped (s : State) (x y : Int) (v : Bool) : State :=
  (s.setTile (s.tileIndex x y)
    (withTileBit (s.tile (s.tileIndex x y)) (y.toNat % bitsPerTile) v)).markDirty (s.tileIndex x y)

/-- `PixelSet` is one of three things: out of bounds, no change, or one bit flipped in one tile that is then dirty. -/
theorem pixelSet_cases (s : State) (x y : Int) (v : Bool) :
    (pixelGet s x y = none ∧ pixelSet s x y v = (s, .outOfBounds)) ∨
    (pixelGet s x y = some v ∧ pixelSet s x y v = (s, .ok)) ∨
    (pixelGet s x y = some (!v) ∧ pixelSet s x y v = (pixelFlipped s x y v, .ok)) := by
  unfold pixelGet pixelSet
  by_cases hb : s.inBounds x y = true
  · by_cases hv : (s.tile (s.tileIndex x y)).getLsbD (y.toNat % bitsPerTile) = v
    · exact .inr (.inl ⟨by simp [hb, hv], by simp [hb, hv]⟩)
    · refine .inr (.inr ⟨?_, by simp [hb, hv, pixelFlipped]⟩)
      simp only [hb, if_true]
      cases v <;> simp_all
  · exact .inl ⟨by simp [hb], by simp [hb]⟩

/-- `PixelSet` writes nothing but the tile RAM, the dirty RAM and FB.count. -/
theorem pixelSet_frame (s : State) (x y : Int) (v : Bool) :
    ∃ tiles dirty count,
      (pixelSet s x y v).1 = { s with tiles := tiles, dirty := dirty, fb := { s.fb with count := count } } := by
  rcases pixelSet_cases s x y v with ⟨-, h⟩ | ⟨-, h⟩ | ⟨-, h⟩ <;> rw [h]
  · exact ⟨s.tiles, s.dirty, s.fb.count, rfl⟩
  · exact ⟨s.tiles, s.dirty, s.fb.count, rfl⟩
  · refine ⟨(pixelFlipped s x y v).tiles, (pixelFlipped s x y v).dirty, (pixelFlipped s x y v).fb.count, ?_⟩
    unfold pixelFlipped State.markDirty
    split <;> rfl

end Sys2Proof.Machine
end

