-- ==== Sys2Proof/Laws/Stack.lean ====
section
/-! SUPPORT. What the stack procedures can do (43_fill_stack.md R234-R237), one lemma each. -/

namespace Sys2Proof.Machine

open Sys2Proof

/-- StackAlloc: it fails exactly when the capacity, coerced to at least 1, exceeds the limit; else the stack is empty and
has that capacity. -/
theorem stackAlloc_eq (maxEntries c : Nat) :
    stackAlloc maxEntries c = if max 1 c ≤ maxEntries then some ⟨true, max 1 c, []⟩ else none := by
  unfold stackAlloc
  by_cases h : max 1 c ≤ maxEntries
  · have : ¬ max 1 c > maxEntries := by omega
    simp only [h, this, if_true, if_false]
  · have : max 1 c > maxEntries := by omega
    simp only [h, this, if_true, if_false]

/-- StackPush: it fails exactly when a full stack cannot double; else the value is on top, and the capacity has doubled
exactly if the stack was full. -/
theorem stackPush_cases (maxEntries : Nat) (S : Stack) (v : Half) :
    (S.count = S.cap ∧ maxEntries < 2 * S.cap ∧ stackPush maxEntries S v = none) ∨
    (S.count = S.cap ∧ 2 * S.cap ≤ maxEntries ∧
      stackPush maxEntries S v = some ⟨S.alloc, 2 * S.cap, v :: S.entries⟩) ∨
    (S.count ≠ S.cap ∧ stackPush maxEntries S v = some ⟨S.alloc, S.cap, v :: S.entries⟩) := by
  unfold stackPush
  by_cases h : S.count = S.cap
  · by_cases h' : 2 * S.cap > maxEntries
    · exact .inl ⟨h, h', by simp [h, h']⟩
    · exact .inr (.inl ⟨h, by omega, by simp [h, h']⟩)
  · exact .inr (.inr ⟨h, by simp [h]⟩)

/-- A push that succeeds puts the value on top and leaves the entries below it alone. -/
theorem stackPush_some {maxEntries : Nat} {S T : Stack} {v : Half} (h : stackPush maxEntries S v = some T) :
    T.alloc = S.alloc ∧ T.entries = v :: S.entries ∧ (T.cap = S.cap ∨ T.cap = 2 * S.cap) := by
  rcases stackPush_cases maxEntries S v with ⟨-, -, h'⟩ | ⟨-, -, h'⟩ | ⟨-, h'⟩ <;> rw [h'] at h
  · cases h
  · cases h; simp
  · cases h; simp

/-- StackPop fails exactly on an empty stack. -/
theorem stackPop_eq_none {S : Stack} : stackPop S = none ↔ S.entries = [] := by
  unfold stackPop
  cases S.entries <;> simp

/-- StackPop gives the entry on top and leaves the capacity and the entries below it alone. -/
theorem stackPop_eq_some {S T : Stack} {v : Half} :
    stackPop S = some (v, T) ↔ ∃ rest, S.entries = v :: rest ∧ T = ⟨S.alloc, S.cap, rest⟩ := by
  unfold stackPop
  cases h : S.entries with
  | nil => simp
  | cons u rest => simp [eq_comm]

/-- Last in, first out: a pop after a push gives the value pushed and the entries that were there before. -/
theorem stackPop_stackPush {maxEntries : Nat} {S T : Stack} {v : Half} (h : stackPush maxEntries S v = some T) :
    stackPop T = some (v, ⟨T.alloc, T.cap, S.entries⟩) :=
  stackPop_eq_some.2 ⟨S.entries, (stackPush_some h).2.1, rfl⟩

end Sys2Proof.Machine
end

