-- ==== Sys2Proof/Tests/Slice0.lean ====
section
/-! SUPPORT. Tests.  Expected values are those of spec/95_test_vectors.md and of the examples in the rules; each test names
its source.  The section of witnesses holds one for the hypotheses of every statement of
Certificates/Slice0/Obligations.lean. -/

namespace Sys2Proof.Tests

open Sys2Proof Sys2Proof.Machine

/-! ## Words, written out from 30_encoding.md R106 -/

theorem test_decode_fb_create : decode 0x00000001#32 = .ok .fbCreate := by decide
theorem test_decode_fb_clear : decode 0x00000002#32 = .ok .fbClear := by decide
theorem test_decode_fb_set_pixel :
    decode 0x00000003#32 = .ok (.fbSetPixel false) ∧ decode 0x00000103#32 = .ok (.fbSetPixel true) := by decide
theorem test_decode_fb_get_pixel : decode 0x00000004#32 = .ok .fbGetPixel := by decide
theorem test_decode_fb_destroy : decode 0x00000005#32 = .ok .fbDestroy := by decide
theorem test_decode_disp_init : decode 0x00000010#32 = .ok .dispInit := by decide
theorem test_decode_disp_on :
    decode 0x00000011#32 = .ok (.dispOn false) ∧ decode 0x00000111#32 = .ok (.dispOn true) := by decide
theorem test_decode_disp_update : decode 0x00000012#32 = .ok .dispUpdate := by decide
theorem test_decode_disp_update_all : decode 0x00000013#32 = .ok .dispUpdateAll := by decide
theorem test_decode_disp_update_diff : decode 0x00000014#32 = .ok .dispUpdateDiff := by decide
theorem test_decode_disp_set_col_range : decode 0x00000015#32 = .ok .dispSetColRange := by decide
theorem test_decode_disp_set_page_range : decode 0x00000016#32 = .ok .dispSetPageRange := by decide
theorem test_decode_draw_line :
    decode 0x00000020#32 = .ok (.drawLine false) ∧ decode 0x00000120#32 = .ok (.drawLine true) := by decide
theorem test_decode_draw_rect :
    decode 0x00000021#32 = .ok (.drawRect false) ∧ decode 0x00000121#32 = .ok (.drawRect true) := by decide
theorem test_decode_draw_circle :
    decode 0x00000022#32 = .ok (.drawCircle false) ∧ decode 0x00000122#32 = .ok (.drawCircle true) := by decide
theorem test_decode_draw_ellipse_rect :
    decode 0x00000023#32 = .ok (.drawEllipseRect false) ∧
      decode 0x00000123#32 = .ok (.drawEllipseRect true) := by decide
theorem test_decode_draw_fill :
    decode 0x00000024#32 = .ok (.drawFill false false) ∧ decode 0x00000124#32 = .ok (.drawFill true false) ∧
      decode 0x00000224#32 = .ok (.drawFill false true) ∧ decode 0x00000324#32 = .ok (.drawFill true true) := by decide
theorem test_decode_stk_alloc : decode 0x00000030#32 = .ok .stkAlloc := by decide
theorem test_decode_stk_push : decode 0x00000031#32 = .ok .stkPush := by decide
theorem test_decode_stk_pop : decode 0x00000032#32 = .ok .stkPop := by decide
theorem test_decode_stk_dealloc : decode 0x00000033#32 = .ok .stkDealloc := by decide

/-- Vectors V-E1, V-E2, V-E3: reserved opcodes. -/
theorem test_decode_reserved_opcodes :
    decode 0x00000000#32 = .error .reservedOpcode ∧ decode 0x00000006#32 = .error .reservedOpcode ∧
      decode 0x000000FF#32 = .error .reservedOpcode := by decide

/-- Vectors V-E4, V-E10, V-E5, V-E6, V-E8: RES, V and M set where they may not be. -/
theorem test_decode_illegal_bits :
    decode 0x00000430#32 = .error .reservedBitsSet ∧ decode 0x80000012#32 = .error .reservedBitsSet ∧
      decode 0x00000130#32 = .error .valueBitNotRead ∧ decode 0x00000230#32 = .error .matchBitNotRead ∧
      decode 0x00000203#32 = .error .matchBitNotRead := by decide

/-- No word matches two rows of the opcode map (30_encoding.md R107): the rows differ in OP. -/
theorem test_opcode_rows_differ_in_op :
    opcodeTable.Pairwise (fun a b => a.code.extractLsb' 0 8 ≠ b.code.extractLsb' 0 8) ∧
      (opcodeTable.all fun r => r.mask.extractLsb' 0 8 == 0xFF#8) = true := by decide

theorem test_decode_table_word :
    decodeTableWord 32 0x00000324 = some (.drawFill true true) ∧ decodeTableWord 32 0x00000430 = none := by decide

/-- 20_memory.md R64: lane 0 carries the least significant byte; three bytes are no command word. -/
theorem test_decode_bytes :
    decodeBytes [0x24#8, 0x02#8, 0x00#8, 0x00#8, 0x7F#8] = .ok (.drawFill false true, [0x7F#8]) ∧
      decodeBytes [0x24#8, 0x02#8, 0x00#8] = .error .truncated := by decide

/-! ## Well-formedness: a word that each check refuses, and only that check -/

theorem test_wf_res_zero : (RawCommand.mk 0x30 false false 1).resZero = false ∧
    (RawCommand.mk 0x30 false false 0).wf = true := by decide
theorem test_wf_op_assigned : (RawCommand.mk 0x25 false false 0).opAssigned = false ∧
    (RawCommand.mk 0x24 false false 0).opAssigned = true := by decide
theorem test_wf_v_allowed : (RawCommand.mk 0x30 true false 0).vAllowed = false ∧
    (RawCommand.mk 0x11 true false 0).vAllowed = true := by decide
theorem test_wf_m_allowed : (RawCommand.mk 0x03 false true 0).mAllowed = false ∧
    (RawCommand.mk 0x24 false true 0).mAllowed = true := by decide

/-! ## Small states -/

/-- The parameters of 95_test_vectors.md section 0, with the type bytes 93_implementation_defined.md G10 suggests,
at some base address. -/
def vectorParams : Params := ⟨0x00#8, 0x40#8, 16384, 1024, 16, 147, 294, 0x40000000⟩

/-- Reset with those parameters, zeroed RAMs, and a transport that answers OK. -/
def fresh : State :=
  { State.reset with
    params := vectorParams, tiles := Ram.zeroed 8, dirty := Ram.zeroed 1, busAnswers := List.replicate 64 .ok }

def withArgs (a b c d : Int) (s : State) : State :=
  { s with arg0 := BitVec.ofInt 16 a, arg1 := BitVec.ofInt 16 b, arg2 := BitVec.ofInt 16 c, arg3 := BitVec.ofInt 16 d }

/-- A clean framebuffer of zeros. -/
def withFb (w h : Nat) (s : State) : State := { s with fb := ⟨true, w, h, (h + 7) / 8, w * ((h + 7) / 8), 0⟩ }

/-- Configured as by DISP_CONFIG 0x3C, 0, 1, 0, 0 and DISP_INIT. -/
def withDisplay (s : State) : State := { s with disp := ⟨true, ⟨0x3C#7, false, true, false, false⟩⟩ }

def withTiles (l : List (Nat × Byte)) (s : State) : State := { s with tiles := ⟨l, .zero⟩ }

/-- Tiles marked dirty, and counted. -/
def withDirty (l : List Nat) (s : State) : State :=
  { s with dirty := ⟨l.map fun i => (i, 1#1), .zero⟩, fb := { s.fb with count := l.length } }

/-- The next state, if the step gives one. -/
def nextOf (o : Host.Outcome State Fault Refusal) : Option State :=
  match o with
  | .next t => some t
  | .fault _ => none
  | .refused _ => none

/-- One step that runs the command, put in flight. -/
def run (i : Instr) (s : State) : Option State := nextOf (step (s.withFetchWord 32 (encode i).toNat))

/-- `C xx`, `D xx` and a failed write in the log notation of 95_test_vectors.md section 0. -/
def C (b : Byte) : BusEvent := .write 0x3C#7 [0x00#8, b] true .ok
def D (b : Byte) : BusEvent := .write 0x3C#7 [0x40#8, b] true .ok

/-! ## Framebuffer -/

/-- V-F1 and V-F3: the record FB_CREATE leaves. -/
theorem test_fb_create :
    (run .fbCreate (withArgs 128 32 0 0 fresh)).map (fun t => (t.readReg .fbGeom, t.readReg .fbPages)) =
      some (0x00200080#32, 0x80000004#32) ∧
    (run .fbCreate (withArgs 10 10 0 0 fresh)).map (fun t => (t.readReg .fbGeom, t.fb.ntiles)) =
      some (0x000A000A#32, 20) := by decide

/-- V-F4, V-F5, V-F6, V-F8: the failures of FB_CREATE. -/
theorem test_fb_create_failures :
    (run .fbCreate (withArgs 0 8 0 0 fresh)).map (·.statusWord) = some 0x01#32 ∧
    (run .fbCreate (withArgs 32768 8 0 0 fresh)).map (·.statusWord) = some 0x01#32 ∧
    (run .fbCreate (withArgs 32767 8 0 0 fresh)).map (·.statusWord) = some 0x03#32 ∧
    (run .fbCreate (withArgs 8 8 0 0 (withFb 128 32 fresh))).map (·.statusWord) = some 0x01#32 := by decide

/-- E3: the 10x10 and the 1x1 row. -/
theorem test_fb_clear :
    (run .fbClear (withFb 10 10 fresh)).map (fun t => (t.fb.count, t.tile 19, t.isDirty 19, t.isDirty 20)) =
      some (20, 0#8, true, false) ∧
    (run .fbClear (withFb 1 1 (withTiles [(0, 0xA5#8)] fresh))).map (fun t => (t.fb.count, t.tile 0)) =
      some (1, 0#8) := by decide

/-- V-F11, V-F13: pixel (5, 9) is bit 1 of tile 133; clearing it again leaves the tile dirty. -/
theorem test_fb_set_pixel :
    (run (.fbSetPixel true) (withArgs 5 9 0 0 (withFb 128 32 fresh))).map
        (fun t => (t.tile 133, t.isDirty 133, t.fb.count, t.statusWord)) = some (0x02#8, true, 1, 0#32) ∧
    (run (.fbSetPixel false) (withArgs 5 9 0 0
        (withDirty [133] (withTiles [(133, 0x02#8)] (withFb 128 32 fresh))))).map
        (fun t => (t.tile 133, t.isDirty 133, t.fb.count)) = some (0x00#8, true, 1) := by decide

/-- V-F14, V-F15, V-F16, V-F19: out of bounds, padding rows among them. -/
theorem test_fb_set_pixel_bounds :
    (run (.fbSetPixel true) (withArgs 128 0 0 0 (withFb 128 32 fresh))).map (·.statusWord) = some 0x02#32 ∧
    (run (.fbSetPixel true) (withArgs 0 32 0 0 (withFb 128 32 fresh))).map (·.statusWord) = some 0x02#32 ∧
    (run (.fbSetPixel true) (withArgs (-1) 0 0 0 (withFb 128 32 fresh))).map (·.statusWord) = some 0x02#32 ∧
    (run (.fbSetPixel true) (withArgs 0 10 0 0 (withFb 10 10 fresh))).map (·.statusWord) = some 0x02#32 := by decide

/-- The example of 40_framebuffer.md R136, and V-F18: RESULT keeps its value out of bounds. -/
theorem test_fb_get_pixel :
    (run .fbGetPixel (withArgs 5 9 0 0 (withTiles [(133, 0x02#8)] (withFb 128 32 fresh)))).map
        (fun t => (t.result, t.code)) = some (1#32, .ok) ∧
    (run .fbGetPixel (withArgs 0 32 0 0 { withFb 128 32 fresh with result := 7 })).map
        (fun t => (t.result, t.code)) = some (7#32, .outOfBounds) := by decide

/-- V-F21, V-F22. -/
theorem test_fb_destroy :
    (run .fbDestroy (withFb 128 32 fresh)).map (fun t => (t.readReg .fbGeom, t.readWord (tileOffset 0), t.code)) =
      some (0#32, 0#32, .ok) ∧
    (run .fbDestroy fresh).map (·.code) = some .invalidArgument := by decide

/-! ## Display controller -/

/-- V-D6: the third write fails; DISP stays latched and the flips are not sent. -/
theorem test_disp_init_failure :
    (run .dispInit { fresh with
        cfg := DispConf.ofWord 0x00000C3C#32, busAnswers := [.ok, .ok, .timeout] }).map
        (fun t => (t.busLog, t.statusWord, t.readReg .dispCfg, t.busMode)) =
      some ([C 0xAE#8, C 0x8D#8, .write 0x3C#7 [0x00#8, 0x10#8] true .timeout, .stop], 0x13#32, 0x80000C3C#32,
        true) := by decide

/-- V-D5: the V-D2 sequence, then the horizontal flip in a sequence of its own. -/
theorem test_disp_init :
    (run .dispInit { fresh with cfg := DispConf.ofWord 0x0000043C#32 }).map (fun t => (t.busLog, t.code)) =
      some (([0xAE#8, 0x8D#8, 0x10#8, 0xA8#8, 0x1F#8, 0xDA#8, 0x02#8, 0xD5#8, 0x80#8, 0xD9#8, 0x22#8, 0xDB#8, 0x20#8,
        0x20#8, 0x00#8, 0x22#8, 0x00#8, 0x03#8, 0x21#8, 0x00#8, 0x7F#8, 0xA4#8, 0xA6#8, 0x81#8, 0x9F#8].map C) ++
        [.stop, C 0xA1#8, .stop], .ok) := by decide

/-- V-D8 and the example of 41_display.md R166. -/
theorem test_disp_on :
    (run (.dispOn true) fresh).map (fun t => (t.busLog, t.code)) = some ([], .invalidArgument) ∧
    (run (.dispOn true) (withDisplay fresh)).map (fun t => (t.busLog, t.code)) =
      some ([C 0xAF#8, .stop], .ok) := by decide

/-- V-D16: the differential path. -/
theorem test_disp_update :
    (run .dispUpdate (withDirty [0, 1, 133]
        (withTiles [(0, 1#8), (1, 1#8), (133, 2#8)] (withDisplay (withFb 128 32 fresh))))).map
        (fun t => (t.busLog, t.fb.count, t.code)) =
      some ([C 0x22#8, C 0x00#8, C 0x03#8, C 0x21#8, C 0x00#8, C 0x7F#8, D 0x01#8, D 0x01#8, C 0x22#8, C 0x01#8,
        C 0x03#8, C 0x21#8, C 0x05#8, C 0x7F#8, D 0x02#8, .stop], 0, .ok) := by decide +kernel

/-- V-D21: the eleventh write of a full update fails, and no dirty bit is cleared. -/
theorem test_disp_update_all_failure :
    (run .dispUpdateAll { withDirty [0, 1] (withDisplay (withFb 128 32 fresh)) with
        busAnswers := List.replicate 10 .ok ++ [.addressNack] }).map
        (fun t => (t.busLog, t.fb.count, t.isDirty 0, t.isDirty 1, t.statusWord)) =
      some ([C 0x22#8, C 0x00#8, C 0x03#8, C 0x21#8, C 0x00#8, C 0x7F#8, D 0x00#8, D 0x00#8, D 0x00#8, D 0x00#8,
        .write 0x3C#7 [0x40#8, 0x00#8] true .addressNack, .stop], 2, true, true, 0x12#32) := by decide +kernel

/-- P5: the eighth write fails; tile 10 was sent and is clean, tiles 11 and 300 stay dirty. -/
theorem test_disp_update_diff_failure :
    (run .dispUpdateDiff { withDirty [10, 11, 300]
        (withTiles [(10, 1#8), (11, 1#8), (300, 8#8)] (withDisplay (withFb 128 32 fresh))) with
        busAnswers := List.replicate 7 .ok ++ [.addressNack] }).map
        (fun t => (t.isDirty 10, t.isDirty 11, t.isDirty 300, t.fb.count, t.statusWord, t.busMode)) =
      some (false, true, true, 2, 0x12#32, true) := by decide +kernel

/-- V-D17, V-D18. -/
theorem test_disp_set_col_range :
    (run .dispSetColRange (withArgs 0 127 0 0 (withDisplay fresh))).map (·.busLog) =
      some [C 0x21#8, C 0x00#8, C 0x7F#8, .stop] ∧
    (run .dispSetColRange (withArgs 256 0 0 0 (withDisplay fresh))).map (fun t => (t.busLog, t.code)) =
      some ([], .invalidArgument) := by decide

/-- V-D19, V-D20. -/
theorem test_disp_set_page_range :
    (run .dispSetPageRange (withArgs 200 255 0 0 (withDisplay fresh))).map (·.busLog) =
      some [C 0x22#8, C 0xC8#8, C 0xFF#8, .stop] ∧
    (run .dispSetPageRange (withArgs 0 3 0 0 fresh)).map (·.code) = some .invalidArgument := by decide

/-! ## Rasterizers -/

/-- The LinePts table of 95_test_vectors.md 2.4. -/
theorem test_line_points :
    linePts 0 0 5 2 = [(0, 0), (1, 0), (2, 1), (3, 1), (4, 2), (5, 2)] ∧
    linePts 0 0 2 5 = [(0, 0), (0, 1), (1, 2), (1, 3), (2, 4), (2, 5)] ∧
    linePts 3 0 0 (-3) = [(3, 0), (2, -1), (1, -2), (0, -3)] ∧ linePts 2 3 2 3 = [(2, 3)] := by decide

/-- V-R1: a line that starts outside the buffer. -/
theorem test_draw_line :
    (run (.drawLine true) (withArgs (-2) (-2) 3 3 (withFb 8 8 fresh))).map (fun t => (t.tiles.cells, t.code)) =
      some ([(0, 0x01#8), (1, 0x02#8), (2, 0x04#8), (3, 0x08#8)], .ok) := by decide +kernel

/-- V-R4. -/
theorem test_draw_rect :
    (run (.drawRect true) (withArgs 2 2 8 6 (withFb 16 16 fresh))).map (fun t => (t.tiles.cells, t.fb.count)) =
      some ([(2, 0x7C#8), (3, 0x44#8), (4, 0x44#8), (5, 0x44#8), (6, 0x44#8), (7, 0x44#8), (8, 0x7C#8)], 7) := by
  decide +kernel

/-- E7: the first octant of the circle of radius 5 about (10, 10). -/
theorem test_circle_points :
    (circlePts 10 10 5).length = 32 ∧
      (∀ p, p ∈ [((15 : Int), (10 : Int)), (15, 11), (15, 12), (14, 13)] → p ∈ circlePts 10 10 5) := by decide

/-- V-R7: only two of the four points are in bounds. -/
theorem test_draw_circle :
    (run (.drawCircle true) (withArgs 0 0 1 0 (withFb 4 4 fresh))).map (·.tiles.cells) =
      some [(0, 0x02#8), (1, 0x01#8)] := by decide +kernel

/-- The boxes (0,0,0,4) and (0,0,2,0): the tip loop reaches both extremes. -/
theorem test_ellipse_points :
    (∀ p, p ∈ ellipsePts 0 0 0 4 ∨ p ∈ [((0 : Int), (0 : Int)), (0, 1), (0, 2), (0, 3), (0, 4)] →
      p ∈ ellipsePts 0 0 0 4 ∧ p ∈ [((0 : Int), (0 : Int)), (0, 1), (0, 2), (0, 3), (0, 4)]) ∧
    (∀ p, p ∈ ellipsePts 0 0 2 0 → p ∈ [((0 : Int), (0 : Int)), (1, 0), (2, 0)]) := by
  refine ⟨?_, by decide⟩
  intro p hp
  have h1 : ∀ p ∈ ellipsePts 0 0 0 4, p ∈ [((0 : Int), (0 : Int)), (0, 1), (0, 2), (0, 3), (0, 4)] := by decide
  have h2 : ∀ p ∈ [((0 : Int), (0 : Int)), (0, 1), (0, 2), (0, 3), (0, 4)], p ∈ ellipsePts 0 0 0 4 := by decide
  exact hp.elim (fun h => ⟨h, h1 p h⟩) (fun h => ⟨h2 p h, h⟩)

/-- V-R8. -/
theorem test_draw_ellipse_rect :
    (run (.drawEllipseRect true) (withArgs 0 0 6 4 (withFb 8 8 fresh))).map (·.tiles.cells) =
      some [(0, 0x04#8), (1, 0x0A#8), (2, 0x11#8), (3, 0x11#8), (4, 0x11#8), (5, 0x0A#8), (6, 0x04#8)] := by
  decide +kernel

/-! ## Flood fill -/

/-- The partial fill of 95_test_vectors.md 2.5: two entries of FSTK, three pixels of row 0. -/
theorem test_draw_fill_out_of_memory :
    (run (.drawFill true false) { withTiles [(1, 2#8), (3, 2#8)] (withFb 5 2 fresh) with
        params := { vectorParams with fillStackInitCapacity := 2, stackMaxEntries := 2 } }).map
        (fun t => (t.tiles.cells, t.code, t.fstk)) =
      some ([(0, 1#8), (1, 3#8), (2, 1#8), (3, 2#8)], .outOfMemory, ⟨false, 0, []⟩) := by decide +kernel

/-- V-L6 and V-L7: a seed that does not hold `m` repaints nothing, though its left neighbour does. -/
theorem test_draw_fill_seed :
    (run (.drawFill false true) (withArgs 1 0 0 0 (withTiles [(0, 1#8)] (withFb 2 1 fresh)))).map
        (fun t => (t.tiles.cells, t.code)) = some ([(0, 1#8)], .ok) ∧
    (run (.drawFill false true) (withArgs 0 0 0 0 (withTiles [(0, 1#8)] (withFb 2 1 fresh)))).map
        (fun t => (t.tiles.cells, t.code)) = some ([], .ok) := by decide +kernel

/-! ## Stack -/

/-- 95_test_vectors.md 2.6, steps 2, 16 and 17, with STACK_MAX_ENTRIES = 4. -/
theorem test_stk_alloc :
    (run .stkAlloc fresh).map (·.stk) = some ⟨true, 1, []⟩ ∧
    (run .stkAlloc (withArgs 5 0 0 0 { fresh with params := { vectorParams with stackMaxEntries := 4 } })).map
      (·.code) = some .outOfMemory := by decide

/-- Steps 6 and 8: a full stack doubles, or fails with its entries intact. -/
theorem test_stk_push :
    (run .stkPush (withArgs 30 0 0 0 { fresh with stk := ⟨true, 2, [20#16, 10#16]⟩ })).map (·.stk) =
      some ⟨true, 4, [30#16, 20#16, 10#16]⟩ ∧
    (run .stkPush { fresh with
        stk := ⟨true, 4, [40#16, 30#16, 20#16, 10#16]⟩
        params := { vectorParams with stackMaxEntries := 4 } }).map (fun t => (t.stk, t.code)) =
      some (⟨true, 4, [40#16, 30#16, 20#16, 10#16]⟩, .outOfMemory) := by decide

/-- Steps 9 and 13. -/
theorem test_stk_pop :
    (run .stkPop { fresh with stk := ⟨true, 4, [40#16, 30#16]⟩ }).map (fun t => (t.result, t.stk)) =
      some (40#32, ⟨true, 4, [30#16]⟩) ∧
    (run .stkPop { fresh with stk := ⟨true, 4, []⟩, result := 10 }).map (fun t => (t.result, t.statusWord)) =
      some (10#32, 0x04#32) := by decide

/-- Steps 14 and 15. -/
theorem test_stk_dealloc :
    (run .stkDealloc { fresh with stk := ⟨true, 4, [1#16]⟩ }).map (fun t => (t.readReg .stkCap, t.readReg .stkCount)) =
      some (0#32, 0#32) ∧
    (run .stkDealloc fresh).map (·.code) = some .invalidArgument := by decide

/-! ## Host port and decode in the step -/

/-- Operand assembly of 95_test_vectors.md 2.1: ARG0 stores 0x8005, CFG stores 0xF7F. -/
theorem test_host_writes :
    (fresh.writeReg .arg0 0xFFFF8005#32).readReg .arg0 = 0x00008005#32 ∧
    (fresh.writeReg .arg0 0xFFFF8005#32).s16 0 = -32763 ∧ (fresh.writeReg .arg0 0xFFFF8005#32).u16 0 = 32773 ∧
    (fresh.writeReg .cfg 0xFFFFFFFF#32).readReg .cfg = 0x00000F7F#32 := by decide

/-- V-X3: an unmapped offset reads 0. -/
theorem test_unmapped_read : fresh.readWord ⟨0x00040, by decide⟩ = 0 := by decide

/-- V-E7: `WR CMD, 0x30` from reset takes one step to be accepted and the next runs STK_ALLOC. -/
theorem test_command_from_pending :
    ((nextOf (step { fresh with pending := [⟨.write (regOffset .cmd) 4 0x30#32, false⟩] })).bind
      fun t => nextOf (step t)).map (fun t => (t.stk.cap, t.statusWord, t.cmd)) = some (1, 0#32, 0x30#32) := by decide

/-- V-E1: an illegal word. -/
theorem test_illegal_word :
    (nextOf (step { fresh with busy := true, cmd := 0 })).map (·.statusWord) = some 0x01#32 := by decide

/-- 41_display.md R161 on the log of V-D9: off, then on. -/
theorem test_panel_state :
    (scanLog vectorParams ([0xAE#8, 0x8D#8, 0x14#8].map C ++ [.stop])).state = .off ∧
    (scanLog vectorParams ([0xAE#8, 0x8D#8].map C ++ [.stop, C 0xAF#8, .stop])).state = .on ∧
    (scanLog vectorParams [C 0xAE#8, .write 0x3C#7 [0x00#8, 0x8D#8] true .timeout, .stop]).state = .unknown := by
  decide

/-- The reference panel at power-on with zeros for all 20_memory.md R86 does not give. -/
def blankPanel : Panel := Panel.powerOn ⟨Vector.replicate 1024 0#8, 0, 0, 0, 0, 0, 0, 0, false, false, false, none⟩

/-- The cross-page run of 95_test_vectors.md 2.3: tile 128 goes to `gddram[1][127]` (20_memory.md R88). -/
theorem test_reference_panel_cross_page :
    let p := panelRun vectorParams 0x3C#7
      ([C 0x22#8, C 0x00#8, C 0x03#8, C 0x21#8, C 0x7F#8, C 0x7F#8, D 0x01#8, D 0x02#8].map fun e => (e, true))
      { blankPanel with amode := 0 }
    p.gddram[127]? = some 0x01#8 ∧ p.gddram[255]? = some 0x02#8 ∧ p.gddram[128]? = some 0x00#8 := by decide +kernel

/-- 20_memory.md R88: a data byte is written in page mode too, the mode at power-on (R86). -/
theorem test_reference_panel_data_in_page_mode :
    blankPanel.amode = 2 ∧ (panelData { blankPanel with pagePtr := 1, colPtr := 5 } 0x02#8).gddram[133]? = some 0x02#8 := by
  decide +kernel

/-- 20_memory.md R89: bit 1 of `gddram[1][5]` drives the pixel at column 5, row 9; 0xA1 mirrors it to column 122 and 0xC8, on
32 rows, to row 22. -/
theorem test_reference_panel_pixels :
    let p := panelData { blankPanel with pagePtr := 1, colPtr := 5 } 0x02#8
    p.ramPixel 5 9 = true ∧ p.ramPixel 5 8 = false ∧ p.pixel 32 5 9 = true ∧
      (panelParse (panelParse p 0xA1#8) 0xC8#8).pixel 32 122 22 = true ∧
      (panelParse (panelParse p 0xA1#8) 0xC8#8).pixel 32 5 9 = false := by decide +kernel

/-- 30_encoding.md R113: `STK_POP` then `CHECK 0x04`; the value read after the WAIT decides. -/
theorem test_check :
    checksHold [.command .stkPop [] 0, .check 0x04#8] [⟨regOffset .status, 4#32⟩, ⟨regOffset .status, 4#32⟩] = true ∧
      checksHold [.command .stkPop [] 0, .check 0x04#8] [⟨regOffset .status, 4#32⟩, ⟨regOffset .status, 0#32⟩] = false ∧
      checksHold [.command .stkPop [] 1, .check 0x04#8]
        [⟨regOffset .status, 0x80000000#32⟩, ⟨regOffset .status, 4#32⟩, ⟨regOffset .status, 4#32⟩] = true ∧
      checksHold [.check 0x04#8] [⟨regOffset .result, 4#32⟩] = false := by decide

/-- 20_memory.md R73 on the log of `DISP_ON 1`. -/
theorem test_wire_reading :
    wireReading false [C 0xAF#8, .stop] = [.start, .address 0x3C#7, .byte 0x00#8, .byte 0xAF#8, .stop] := by decide

/-- The lines of `STK_ALLOC 1` (30_encoding.md R113). -/
theorem test_command_lines :
    commandLines .stkAlloc [1] 2 = [.wr .arg0 1#32, .wr .cmd 0x30#32, .wait 2] := by decide

/-- 30_encoding.md R112: with BUSY = 0 the WAIT loop breaks at its first read, whatever polls it was given. -/
theorem test_wait_breaks_at_first_idle_read :
    ((nextOf (step { fresh with pending := [waitEvent 3] })).map fun t => (t.pending, t.hostReads)) =
      some ([], [⟨regOffset .status, 0#32⟩]) := by decide

/-- With BUSY = 1 it goes on. -/
theorem test_wait_goes_on_while_busy :
    ((nextOf (step { fresh with busy := true, cmd := 0x30#32, pending := [waitEvent 1] })).map
      fun t => (t.pending, t.hostReads)) = some ([waitEvent 0], [⟨regOffset .status, 0x80000000#32⟩]) := by decide

/-- 20_memory.md R60: the first and the last address of the host space, and the addresses on either side of it. -/
theorem test_host_addresses :
    memWrite vectorParams 0x40000000 4 7 false = some ⟨.write (regOffset .cmd) 4 7, false⟩ ∧
      memRead vectorParams 0x4002FFFF 1 false = some ⟨.read 0x2FFFF 1, false⟩ ∧
      memRead vectorParams 0x3FFFFFFC 4 false = none ∧ memRead vectorParams 0x40030000 4 false = none := by decide

/-- 00_scope.md R6: any controller may stand at the far end; this one counts the stops. -/
theorem test_far_end :
    State.farEnd { fresh with busLogRev := [.stop, C 0xAF#8, .stop] }
      (fun _ n e => if e = .stop then n + 1 else n) (fun _ => true) 0 = 2 := by decide

/-! ## Witnesses: for each statement of Certificates/Slice0/Obligations.lean with hypotheses, states and operands that meet
them, clause by clause, at the bounds of the ranges.  A statement without hypotheses has none here. -/

/-- A configured display, its framebuffer, and three dirty tiles in two runs. -/
def good : State :=
  withDirty [0, 1, 133] (withTiles [(0, 1#8), (1, 1#8), (133, 2#8)] (withDisplay (withFb 128 32 fresh)))

/-- The same, with a transport that answers a whole frame. -/
def goodFull : State := { good with busAnswers := List.replicate 518 .ok }

/-- The same with the first `n` tiles dirty. -/
def goodDirty (n : Nat) : State := withDirty (List.range n) (withDisplay (withFb 128 32 fresh))

/-- The same panel with no dirty tile. -/
def goodClean : State := withDisplay (withFb 128 32 fresh)

/-- Five by two pixels, two of them set. -/
def small : State := withTiles [(1, 2#8), (3, 2#8)] (withFb 5 2 fresh)

/-- A command in flight with one host action waiting. -/
def inFlight (e : HostEvent) : State := { fresh with busy := true, cmd := 0x30#32, pending := [e] }

/-- One host action and no command in flight. -/
def idleWith (a : HostAction) (early : Bool) : State := { fresh with pending := [⟨a, early⟩] }

theorem good_inv : good.Inv := by
  unfold State.Inv State.fbInv stackInv
  decide +kernel

theorem goodFull_inv : goodFull.Inv := good_inv

theorem goodClean_inv : goodClean.Inv := by
  unfold State.Inv State.fbInv stackInv
  decide +kernel

theorem small_inv : small.Inv := by
  unfold State.Inv State.fbInv stackInv
  decide +kernel

theorem small_roomless_inv :
    State.Inv { small with params := { vectorParams with fillStackInitCapacity := 2, stackMaxEntries := 2 } } := by
  unfold State.Inv State.fbInv stackInv
  decide +kernel

theorem goodDirty_inv : (goodDirty 147).Inv ∧ (goodDirty 148).Inv := by
  constructor <;> unfold State.Inv State.fbInv stackInv <;> decide +kernel

/-- The action waits for BUSY = 0, so the engine comes first. -/
theorem witness_StepRunsTheDecodedCommand :
    (∀ e rest, (inFlight ⟨.reset, false⟩).pending = e :: rest → e.early = false) ∧
      (inFlight ⟨.reset, false⟩).busy = true ∧ decode (inFlight ⟨.reset, false⟩).cmd = .ok .stkAlloc := by
  refine ⟨?_, by decide, by decide⟩
  intro e rest h
  cases h
  rfl

theorem witness_IllegalWordOnlySetsStatus :
    (∀ e rest, { inFlight ⟨.reset, false⟩ with cmd := 0x430#32 }.pending = e :: rest → e.early = false) ∧
      { inFlight ⟨.reset, false⟩ with cmd := 0x430#32 }.busy = true ∧
      decode 0x430#32 = .error .reservedBitsSet := by
  refine ⟨?_, by decide, by decide⟩
  intro e rest h
  cases h
  rfl

theorem witness_CommandWriteStartsTheCommand :
    ((idleWith (.write (regOffset .cmd) 4 0x30#32) false).busy = false ∧
      (idleWith (.write (regOffset .cmd) 4 0x30#32) false).pending =
        ⟨.write (regOffset .cmd) 4 0x30#32, false⟩ :: [] ∧ decode 0x30#32 = .ok .stkAlloc) ∧
    ((inFlight ⟨.write (regOffset .cmd) 4 0x31#32, true⟩).busy = true ∧
      (inFlight ⟨.write (regOffset .cmd) 4 0x31#32, true⟩).pending =
        ⟨.write (regOffset .cmd) 4 0x31#32, true⟩ :: []) := by decide

theorem witness_HostActionsWhileACommandRuns :
    ((inFlight ⟨.write 0x2FFFC 4 1, true⟩).busy = true ∧ (0x2FFFC : Fin 0x30000).val % 4 = 0 ∧
      (inFlight ⟨.write 0x2FFFC 4 1, true⟩).pending = ⟨.write 0x2FFFC 4 1, true⟩ :: []) ∧
    ((inFlight ⟨.read (regOffset .status) 4, true⟩).pending = ⟨.read (regOffset .status) 4, true⟩ :: []) ∧
    ((inFlight ⟨.read 0 4, true⟩).pending = ⟨.read 0 4, true⟩ :: [] ∧ (0 : Fin 0x30000) ≠ regOffset .status) := by decide

/-- A byte access at an aligned offset, a word access at an odd one, and an early one while a command runs. -/
theorem witness_OnlyAlignedWordAccessesAreDefined :
    (step (idleWith (.read 0 1) false) = .refused .hostAccessNotAlignedWord ∧ (1 ≠ 4 ∨ (0 : Fin 0x30000).val % 4 ≠ 0)) ∧
    (step (idleWith (.write 1 4 0) false) = .refused .hostAccessNotAlignedWord ∧
      (4 ≠ 4 ∨ (1 : Fin 0x30000).val % 4 ≠ 0)) ∧
    step (inFlight ⟨.read 2 4, true⟩) = .refused .hostAccessNotAlignedWord :=
  ⟨⟨rfl, by decide⟩, ⟨rfl, by decide⟩, rfl⟩

theorem witness_HostReadsHaveNoSideEffect :
    (idleWith (.read 0x2FFFC 4) true).busy = false ∧ (0x2FFFC : Fin 0x30000).val % 4 = 0 ∧
      (idleWith (.read 0x2FFFC 4) true).pending = ⟨.read 0x2FFFC 4, true⟩ :: [] := by decide

/-- The last tile of the framebuffer and the first word past it. -/
theorem witness_WindowReadsShowTilesAndDirtyBits :
    (withTiles [(511, 9#8)] goodClean).readWord (tileOffset 511) = 9 ∧
      (withTiles [(512, 9#8)] goodClean).readWord (tileOffset 512) = 0 ∧
      (goodDirty 512).readWord (dirtyOffset 511) = 1 ∧ (goodDirty 513).readWord (dirtyOffset 512) = 0 := by
  decide +kernel

theorem witness_IgnoredWritesAndUnmappedReads :
    ((0x004 : Fin 0x30000).val % 4 = 0 ∧ (0x004 : Fin 0x30000).val ∉ [0x000, 0x00C, 0x010, 0x014, 0x018, 0x01C] ∧
      (idleWith (.write 0x004 4 7) false).pending = ⟨.write 0x004 4 7, false⟩ :: []) ∧
    ((0x38 : Fin 0x30000).val % 4 = 0 ∧ 0x38 ≤ (0x38 : Fin 0x30000).val) ∧
    ((0xFFFC : Fin 0x30000).val % 4 = 0 ∧ (0xFFFC : Fin 0x30000).val < 0x10000) := by decide

theorem witness_ConfigWriteStoresItsFields :
    (idleWith (.write (regOffset .cfg) 4 0xFFFFFFFF#32) false).busy = false ∧
      (idleWith (.write (regOffset .cfg) 4 0xFFFFFFFF#32) false).pending =
        ⟨.write (regOffset .cfg) 4 0xFFFFFFFF#32, false⟩ :: [] := by decide

theorem witness_ArgumentWriteStoresSixteenBits :
    (0x010 : Fin 0x30000).val = 0x010 + 4 * (0 : Fin 4).val ∧ (0x01C : Fin 0x30000).val = 0x010 + 4 * (3 : Fin 4).val ∧
      (idleWith (.write 0x01C 4 0xFFFF8005#32) false).pending = ⟨.write 0x01C 4 0xFFFF8005#32, false⟩ :: [] := by decide

theorem witness_ResetInputGivesTheResetState :
    ((idleWith .reset false).busy = false ∧ (idleWith .reset false).pending = ⟨.reset, false⟩ :: []) ∧
    ((inFlight ⟨.reset, true⟩).busy = true ∧ (inFlight ⟨.reset, true⟩).pending = ⟨.reset, true⟩ :: []) := by decide

theorem witness_EveryStepKeepsTheInvariants :
    good.Inv ∧ ∃ t, step (good.withFetchWord 32 0x00000013) = .next t := ⟨good_inv, _, rfl⟩

/-- A step of each outcome. -/
theorem witness_StepsAreRefusedOnlyForTheHost :
    (∃ t, step fresh = .next t) ∧ step (idleWith (.write 3 4 0) false) = .refused .hostAccessNotAlignedWord ∧
      step (inFlight ⟨.reset, true⟩) = .refused .resetWhileBusy := ⟨⟨_, rfl⟩, rfl, rfl⟩

theorem witness_OnlyGetPixelAndPopWriteResult :
    (∃ t, exec .fbGetPixel good = .next t ∧ t.result ≠ good.result) ∧
    (∃ t, exec .stkPop { fresh with stk := ⟨true, 1, [7#16]⟩ } = .next t ∧ t.result ≠ fresh.result) ∧
    (∃ t, step (idleWith (.write (regOffset .result) 4 9) false) = .next t) :=
  ⟨⟨_, rfl, by decide +kernel⟩, ⟨_, rfl, by decide⟩, _, rfl⟩

theorem witness_OnlyDispInitWritesTheConfiguration :
    (∃ t, exec .dispInit fresh = .next t) ∧ (∃ t, exec .fbClear good = .next t) := ⟨⟨_, rfl⟩, _, rfl⟩

theorem witness_FamiliesKeepToTheirOwnState :
    (∃ t, exec .fbClear good = .next t ∧ isDisplay .fbClear = false) ∧
    (∃ t, exec .stkAlloc good = .next t ∧ Instr.stkAlloc ∈ [Instr.stkAlloc, .stkPush, .stkPop, .stkDealloc]) ∧
    (∃ t, exec .dispUpdate good = .next t ∧ isDisplay .dispUpdate = true) :=
  ⟨⟨_, rfl, rfl⟩, ⟨_, rfl, by decide⟩, _, rfl, rfl⟩

theorem witness_SequencesAreHeldAndReleased :
    good.busMode = true ∧ ∃ t, exec (.dispOn true) good = .next t ∧ t.busLog = good.busLog ++ [C 0xAF#8, .stop] :=
  ⟨rfl, _, rfl, by decide +kernel⟩

theorem witness_CommandsNeedAFramebuffer :
    needsFramebuffer (.drawFill true false) = true ∧ fresh.fb.alloc = false := by decide

/-- One case of each clause; the accepted sizes reach the largest dimension and the memory's bound. -/
theorem witness_FbCreateAllocatesTheFramebuffer :
    good.fb.alloc = true ∧ fresh.fb.alloc = false ∧ ¬ (1 ≤ 0 ∧ 0 ≤ 32767 ∧ 1 ≤ 8 ∧ 8 ≤ 32767) ∧
    fresh.params.fbMaxTiles < 2049 * ((64 + 7) / 8) ∧ 2048 * ((64 + 7) / 8) ≤ fresh.params.fbMaxTiles ∧
    (run .fbCreate (withArgs 2049 64 0 0 fresh)).map (·.code) = some .outOfMemory ∧
    (run .fbCreate (withArgs 2048 64 0 0 fresh)).map (·.fb) = some ⟨true, 2048, 64, 8, 16384, 0⟩ ∧
    (run .fbCreate (withArgs 1 32767 0 0 fresh)).map (·.fb) = some ⟨true, 1, 32767, 4096, 4096, 0⟩ ∧
    (run .fbCreate (withArgs 1 32768 0 0 fresh)).map (·.code) = some .invalidArgument := by decide +kernel

theorem witness_FbClearZeroesAndDirtiesEveryTile : fresh.fb.alloc = false ∧ good.fb.alloc = true := by decide

/-- The last pixel, the first past it, a pixel that holds the value already and one that does not. -/
theorem witness_FbSetPixelWritesOnePixel :
    fresh.fb.alloc = false ∧ good.fb.alloc = true ∧ ¬ ((0 : Int) ≤ 128 ∧ (128 : Int) < good.fb.columns) ∧
    (0 : Int) ≤ 127 ∧ (127 : Int) < good.fb.columns ∧ (31 : Int) < good.fb.height ∧
    (good.tile 0).getLsbD (0 % 8) = true ∧ (good.tile 511).getLsbD (31 % 8) = false ∧ good.isDirty 0 = true ∧
    good.isDirty 511 = false := by decide +kernel

theorem witness_PixelReadsBackAsWritten :
    good.fb.alloc = true ∧ pixelGet good (good.s16 0) (good.s16 1) ≠ none ∧
      ∃ t, exec (.fbSetPixel false) good = .next t ∧ (t.tile 0) = 0 :=
  ⟨by decide, by decide +kernel, _, rfl, by decide +kernel⟩

theorem witness_FbGetPixelReturnsThePixel :
    fresh.fb.alloc = false ∧ good.fb.alloc = true ∧ ¬ ((0 : Int) ≤ -1 ∧ (-1 : Int) < good.fb.columns) ∧
      (127 : Int) < good.fb.columns ∧ (31 : Int) < good.fb.height := by decide

theorem witness_FbDestroyReleasesTheFramebuffer :
    fresh.fb.alloc = false ∧ good.fb.alloc = true ∧ needsFramebuffer .fbClear = true := by decide

theorem witness_DisplayCommandsNeedAConfiguration :
    (needsDisplay .dispUpdate = true ∧ fresh.disp.valid = false) ∧
    (isUpdate .dispUpdateAll = true ∧ (withDisplay (withFb 128 64 fresh)).fb.height ≠
      if (withDisplay (withFb 128 64 fresh)).disp.conf.geom then 64 else 32) := by decide

theorem witness_DispInitSendsItsSequences : fresh.busMode = true := by decide

theorem witness_DispOnSendsOneByte :
    fresh.disp.valid = false ∧ good.disp.valid = true ∧ good.busMode = true := by decide

/-- 255 is the largest operand sent, 256 the smallest refused. -/
theorem witness_RangeCommandsSendThreeBytes :
    fresh.disp.valid = false ∧ 255 < (withArgs 0 256 0 0 good).arg1.toNat ∧ (withArgs 255 255 0 0 good).disp.valid = true ∧
    (withArgs 255 255 0 0 good).arg0.toNat ≤ 255 ∧ (withArgs 255 255 0 0 good).arg1.toNat ≤ 255 ∧
    (withArgs 255 255 0 0 good).busMode = true ∧
    (run .dispSetColRange (withArgs 255 255 0 0 good)).map (·.busLog) =
      some [C 0x21#8, C 0xFF#8, C 0xFF#8, .stop] := by decide +kernel

/-- No dirty tile; 147 dirty tiles, the last differential update; 148, the first full one. -/
theorem witness_DispUpdateChoosesByTheThreshold :
    (goodClean.Inv ∧ goodClean.fb.count = 0 ∧ goodClean.updateReady = true) ∧
    ((goodDirty 147).Inv ∧ (goodDirty 147).updateReady = true ∧ 0 < (goodDirty 147).fb.count ∧
      ¬ (goodDirty 147).params.thresh32 < (goodDirty 147).fb.count) ∧
    ((goodDirty 148).Inv ∧ (goodDirty 148).params.thresh32 < (goodDirty 148).fb.count) :=
  ⟨⟨goodClean_inv, by decide⟩, ⟨goodDirty_inv.1, by decide +kernel⟩, goodDirty_inv.2, by decide +kernel⟩

/-- No configuration; a panel and framebuffer that match, for both geometries. -/
theorem witness_UpdateAllSendsTheWholeFrame :
    fresh.disp.valid = false ∧
    (good.busMode = true ∧ good.disp.valid = true ∧ good.fb.alloc = true ∧ good.fb.columns = 128 ∧
      good.fb.height = (if good.disp.conf.geom then 64 else 32)) ∧
    (let s := { withFb 128 64 fresh with disp := ⟨true, ⟨0x3C#7, true, false, false, false⟩⟩ }
     s.busMode = true ∧ s.disp.valid = true ∧ s.fb.height = (if s.disp.conf.geom then 64 else 32)) := by decide

theorem witness_UpdateDiffSendsTheDirtyRuns :
    (withFb 128 64 fresh).disp.valid = false ∧ good.Inv ∧ good.disp.valid = true ∧ good.fb.alloc = true ∧ good.fb.columns = 128 ∧
      good.fb.height = (if good.disp.conf.geom then 64 else 32) := ⟨by decide, good_inv, by decide⟩

theorem witness_SecondUpdateIsANoOp :
    good.Inv ∧ good.disp.valid = true ∧ good.fb.alloc = true ∧ good.fb.columns = 128 ∧
      good.fb.height = (if good.disp.conf.geom then 64 else 32) ∧
      ∃ t, exec .dispUpdate good = .next t ∧ t.code = .ok :=
  ⟨good_inv, by decide, by decide, by decide, by decide, _, rfl, by decide +kernel⟩

/-- A full update; three dirty tiles in two runs; no dirty tile. -/
theorem witness_UpdateWriteCounts :
    (goodFull.Inv ∧ goodFull.updateReady = true ∧ ∃ t, exec .dispUpdateAll goodFull = .next t ∧ t.code = .ok) ∧
    (good.Inv ∧ good.updateReady = true ∧ good.dirtyRuns = 2 ∧
      ∃ t, exec .dispUpdateDiff good = .next t ∧ t.code = .ok ∧ t.busLog.length = 6 * 2 + 3 + 1) ∧
    (goodClean.Inv ∧ goodClean.updateReady = true ∧
      ∃ t, exec .dispUpdateDiff goodClean = .next t ∧ t.code = .ok ∧ t.busLog = []) :=
  ⟨⟨goodFull_inv, by decide, _, rfl, by decide +kernel⟩,
    ⟨good_inv, by decide, by decide +kernel, _, rfl, by decide +kernel, by decide +kernel⟩,
    goodClean_inv, by decide, _, rfl, by decide, by decide⟩

/-- DISP_INIT from reset, and DISP_ON on a panel that is off. -/
theorem witness_PanelStateFollowsItsTable :
    (∃ s t : State, s.Inv ∧ s.PanelInv ∧ exec .dispInit s = .next t ∧ t.code = .ok ∧ panelState s = .uninitialized) ∧
    (∃ s t : State, s.Inv ∧ s.PanelInv ∧ exec (.dispOn true) s = .next t ∧ t.code = .ok ∧ panelState s = .off) := by
  refine ⟨⟨withFb 128 32 fresh, _, ?_, ?_, rfl, ?_, ?_⟩,
    ⟨{ goodClean with busLogRev := [.stop, C 0x8D#8, C 0xAE#8] }, _, ?_, ?_, rfl, ?_, ?_⟩⟩
  all_goals
    try unfold State.Inv State.fbInv stackInv
    try unfold State.PanelInv
    decide +kernel

theorem witness_FullUpdateReachesTheReferencePanel :
    goodFull.Inv ∧ goodFull.disp.valid = true ∧ goodFull.fb.alloc = true ∧ goodFull.fb.columns = 128 ∧
      goodFull.fb.height = (if goodFull.disp.conf.geom then 64 else 32) ∧
      (∃ t, exec .dispUpdateAll goodFull = .next t ∧ t.code = .ok) ∧
      (let p := { blankPanel with amode := 0 }
       p.amode = 0 ∧ p.pending = none) :=
  ⟨goodFull_inv, by decide, by decide, by decide, by decide, ⟨_, rfl, by decide +kernel⟩, by decide⟩

theorem witness_LineIsAMonotonicWalk :
    (linePts 3 0 0 (-3))[0]? = some (3, 0) ∧ (linePts 3 0 0 (-3))[0 + 1]? = some (2, -1) := by decide

theorem witness_CircleHasTheSymmetriesOfTheSquare :
    ((10 : Int) + 5, (10 : Int) + 0) ∈ circlePts 10 10 5 ∧ ((10 : Int) + 0, (10 : Int) + 0) ∈ circlePts 10 10 0 := by
  decide

theorem witness_EllipseIsSymmetricInItsBox :
    ((3 : Int), (0 : Int)) ∈ ellipsePts 0 0 6 4 ∧ 6 = ((6 : Int) - 0).natAbs ∧ 4 = ((4 : Int) - 0).natAbs := by decide

theorem witness_RasterizersPlotTheirPoints :
    rasterPoints good (.drawLine true) = some (linePts 0 0 0 0, true) ∧ good.fb.alloc = true ∧
      ((0 : Int), (0 : Int)) ∈ linePts 0 0 0 0 ∧ pixelGet good 0 0 ≠ none := by decide +kernel

theorem witness_RasterizingTwiceIsRasterizingOnce :
    rasterPoints good (.drawLine false) = some (linePts 0 0 0 0, false) ∧ good.fb.alloc = true ∧
      ∃ t, exec (.drawLine false) good = .next t ∧ t.tile 0 = 0 :=
  ⟨by decide, by decide, _, rfl, by decide +kernel⟩

/-- No framebuffer, a seed one past the last column, equal values, no room for FSTK. -/
theorem witness_FillEndsBeforeItsWalk :
    fresh.fb.alloc = false ∧ small.fb.alloc = true ∧
    pixelGet (withArgs 5 0 0 0 small) (withArgs 5 0 0 0 small).arg0.toInt (withArgs 5 0 0 0 small).arg1.toInt = none ∧
    pixelGet (withArgs 4 1 0 0 small) (withArgs 4 1 0 0 small).arg0.toInt (withArgs 4 1 0 0 small).arg1.toInt ≠ none ∧
    { small with params := { vectorParams with stackMaxEntries := 15 } }.params.stackMaxEntries <
      max 1 vectorParams.fillStackInitCapacity := by decide +kernel

/-- The fill of 95_test_vectors.md 2.5 that runs out of room after three pixels. -/
theorem witness_FillChangesOnlyMatchingPixels :
    State.Inv { small with params := { vectorParams with fillStackInitCapacity := 2, stackMaxEntries := 2 } } ∧
      small.fb.alloc = true := ⟨small_roomless_inv, by decide⟩

theorem witness_FillRepaintsTheConnectedComponent :
    small.Inv ∧ small.fb.alloc = true ∧ false ≠ true ∧
      (∃ t, exec (.drawFill true false) small = .next t ∧ t.code = .ok) ∧
      Reaches small false (small.s16 0, small.s16 1) (1, 0) := by
  refine ⟨small_inv, by decide, by decide, ⟨_, rfl, by decide +kernel⟩, ?_⟩
  exact .next (0, 0) (1, 0) (.seed (by decide +kernel)) (by unfold adjacent; decide) (by decide +kernel)

theorem witness_FillWithRoomFinishesOk :
    small.Inv ∧ small.fb.alloc = true ∧ pixelGet small (small.s16 0) (small.s16 1) = some false ∧
      small.params.fillStackInitCapacity ≤ small.params.stackMaxEntries ∧
      8 * (small.fb.columns * small.fb.height) + 8 ≤ small.params.stackMaxEntries := by
  refine ⟨small_inv, ?_⟩
  decide +kernel

theorem witness_FillLoopEndsByItself :
    small.Inv ∧ small.fb.alloc = true ∧ false ≠ true ∧
      ∃ S r, stackAlloc small.params.stackMaxEntries small.params.fillStackInitCapacity = some S ∧
        pixelGet small 4 1 ≠ none ∧ pushSeed 4 1 (small.setFstk S) = (r, .ok) :=
  ⟨small_inv, by decide, by decide, _, _, rfl, by decide +kernel, rfl⟩

/-- Allocated already, one entry more than the limit, and the limit itself. -/
theorem witness_StkAllocAllocatesAnEmptyStack :
    { fresh with stk := ⟨true, 1, []⟩ }.stk.alloc = true ∧ fresh.stk.alloc = false ∧
    fresh.params.stackMaxEntries < max 1 (withArgs 1025 0 0 0 fresh).arg0.toNat ∧
    max 1 (withArgs 1024 0 0 0 fresh).arg0.toNat ≤ fresh.params.stackMaxEntries := by decide

/-- Room below the capacity; a full stack whose double fits exactly; one whose double does not. -/
theorem witness_StkPushDoublesAFullStack :
    fresh.stk.alloc = false ∧ (Stack.mk true 2 [10#16]).count ≠ 2 ∧ (Stack.mk true 2 [20#16, 10#16]).count = 2 ∧
    2 * 2 ≤ { vectorParams with stackMaxEntries := 4 }.stackMaxEntries ∧
    { vectorParams with stackMaxEntries := 3 }.stackMaxEntries < 2 * 2 := by decide

theorem witness_StkPopReturnsTheTopEntry :
    fresh.stk.alloc = false ∧ (Stack.mk true 1 []).entries = [] ∧ (Stack.mk true 1 [7#16]).entries = 7#16 :: [] := by
  decide

theorem witness_StkDeallocReleasesTheStack :
    fresh.stk.alloc = false ∧ { fresh with stk := ⟨true, 1, []⟩ }.stk.alloc = true := by decide

/-- Two pushes, the second of which doubles the stack. -/
theorem witness_PushedValuesPopInReverse :
    ∃ t, pushesOk [10#16, 20#16] { fresh with stk := ⟨true, 1, []⟩ } t :=
  ⟨_, _, rfl, rfl, _, rfl, rfl, rfl⟩

/-- A framebuffer and a stack whose registers all differ, and both configurations; allocated or not. -/
theorem witness_RegistersReadTheState :
    (∃ s : State, s.Inv ∧ s.readWord 0x020 = 0x00200080#32 ∧ s.readWord 0x024 = 0x80000004#32 ∧
      s.readWord 0x028 = 3 ∧ s.readWord 0x030 = 4 ∧ s.readWord 0x034 = 1 ∧ s.readWord 0x02C = 0x8000023C#32) ∧
    (∃ s : State, s.Inv ∧ s.fb.alloc = false ∧ s.stk.alloc = false) ∧
    ((0x00C : Fin 0x30000) = 0x00C ∧ (0x02C : Fin 0x30000) = 0x02C) ∧
    { fresh with code := .busTimeout }.readWord 0x004 = 0x13#32 := by
  refine ⟨⟨{ good with stk := ⟨true, 4, [7#16]⟩ }, ?_, ?_⟩, ⟨fresh, ?_, by decide⟩, by decide, by decide⟩
  all_goals
    try unfold State.Inv State.fbInv stackInv
    decide +kernel

/-- A step that runs DISP_INIT, one that takes a host write, one that takes the reset input. -/
theorem witness_EveryStepKeepsThePanelInvariant :
    (∃ s t : State, s.Inv ∧ s.PanelInv ∧ step s = .next t ∧ panelState t = .off) ∧
    (∃ s t : State, s.Inv ∧ s.PanelInv ∧ step s = .next t ∧ t.busy = true) ∧
    (∃ s t : State, s.Inv ∧ s.PanelInv ∧ step s = .next t ∧ s.busLog ≠ [] ∧ t.busLog = []) := by
  refine ⟨⟨fresh.withFetchWord 32 0x10, _, ?_, ?_, rfl, ?_⟩,
    ⟨idleWith (.write (regOffset .cmd) 4 0x10#32) false, _, ?_, ?_, rfl, ?_⟩,
    ⟨{ goodClean with busLogRev := [.stop, C 0x8D#8, C 0xAE#8], pending := [⟨.reset, false⟩] }, _, ?_, ?_, rfl, ?_, ?_⟩⟩
  all_goals
    try unfold State.Inv State.fbInv stackInv
    try unfold State.PanelInv
    decide +kernel

/-- No command in flight with polls left; polls before the engine's step; none left, so the engine steps. -/
theorem witness_WaitPollsStatusUntilNotBusy :
    ((idleWith (.wait 3) true).busy = false ∧ (idleWith (.wait 3) true).pending = ⟨.wait 3, true⟩ :: []) ∧
    ((inFlight ⟨.wait 2, true⟩).busy = true ∧ (inFlight ⟨.wait 2, true⟩).pending = ⟨.wait 2, true⟩ :: []) ∧
    ((inFlight ⟨.wait 0, false⟩).busy = true ∧ decode (inFlight ⟨.wait 0, false⟩).cmd = .ok .stkAlloc ∧
      (inFlight ⟨.wait 0, false⟩).pending = ⟨.wait 0, false⟩ :: []) := by decide

/-! ## Runs -/

/-- 70_reset_and_hazards.md R302: a launched program's first step makes its first access; a start state with a command in
flight meets no launch premise. -/
theorem test_launch :
    ((nextOf (step (HostProgram.launch { lines := [.command .stkAlloc [1] 0], start := fresh }))).map
      fun t => (t.arg0, t.pending.length)) = some (1#16, 2) ∧
    ¬ (HostProgram.premises { lines := [], start := { fresh with busy := true } }) :=
  ⟨by decide, fun h => absurd h.2.1 (by decide)⟩

/-- The launch premises are met, by a start state with no event in the log and by one with a stated prefix. -/
theorem test_launch_premises :
    (HostProgram.premises { lines := [], start := good }) ∧
    (HostProgram.premises { lines := [], start := { good with busLogRev := [.stop, C 0xAF#8] }, logPrefix := [C 0xAF#8, .stop] }) :=
  ⟨⟨good_inv, by decide, by decide⟩, good_inv, by decide, by decide⟩

/-- 70_reset_and_hazards.md R303: the result of a run that only reads STATUS; a run refused has none. -/
theorem test_run_result :
    (HostProgram.result { lines := [.primitive (.rd .status)], start := fresh }).map (fun r => (r.registers[1]?, r.busLog)) =
      some (some 0#32, []) ∧
    runSteps 1 (idleWith (.read 0 2) false) = none := by decide

end Sys2Proof.Tests
end

section
/-! SUPPORT. The invariants of 10_state.md R43: what they speak of, and the operations that keep them. -/

namespace Sys2Proof.Machine

open Sys2Proof

/-! ## Counting the dirty tiles -/

/-- Two tests that differ at one place below `n`, where only the second holds, differ by one in their count. -/
theorem countP_range_of_differ_at {f g : Nat → Bool} {i n : Nat} (hi : i < n) (hf : f i = false) (hg : g i = true)
    (hother : ∀ j, j ≠ i → g j = f j) : (List.range n).countP g = (List.range n).countP f + 1 := by
  induction n with
  | zero => omega
  | succ n ih =>
    simp only [List.range_succ, List.countP_append, List.countP_cons, List.countP_nil]
    by_cases hin : i = n
    · subst hin
      have hbelow : (List.range i).countP g = (List.range i).countP f :=
        List.countP_congr fun j hj => by rw [hother j (Nat.ne_of_lt (List.mem_range.1 hj))]
      simp [hbelow, hf, hg]
    · rw [ih (by omega), hother n (Ne.symm hin)]
      omega

theorem dirtyTotal_markDirty {s : State} {i : Nat} (hi : i < s.fb.ntiles) (hclean : s.isDirty i = false) :
    (s.setDirty i true).dirtyTotal = s.dirtyTotal + 1 :=
  countP_range_of_differ_at hi hclean (by simp) fun j hj => by simp [hj]

theorem dirtyTotal_cleanTile {s : State} {i : Nat} (hi : i < s.fb.ntiles) (hdirty : s.isDirty i = true) :
    s.dirtyTotal = (s.setDirty i false).dirtyTotal + 1 :=
  countP_range_of_differ_at hi (by simp) hdirty fun j hj => by simp [hj]

theorem dirtyTotal_eq_zero {s : State} (h : ∀ i, s.isDirty i = false) : s.dirtyTotal = 0 := by
  simp [State.dirtyTotal, h]

theorem dirtyTotal_eq_ntiles {s : State} (h : ∀ i < s.fb.ntiles, s.isDirty i = true) : s.dirtyTotal = s.fb.ntiles := by
  have hall : (List.range s.fb.ntiles).countP s.isDirty = (List.range s.fb.ntiles).length :=
    List.countP_eq_length.2 fun i hi => h i (List.mem_range.1 hi)
  rwa [List.length_range] at hall

/-! ## The framebuffer's part of the invariants -/

/-- The part of `State.Inv` that speaks of the framebuffer: its record with its counter, and its two RAMs. -/
def State.FbOk (s : State) : Prop := s.fbInv ∧ s.tiles.wf ∧ s.dirty.wf

/-- `State.FbOk` speaks of the parameters, the FB record and the two RAMs only. -/
theorem State.FbOk.congr {s t : State} (h : s.FbOk) (hparams : t.params = s.params) (hfb : t.fb = s.fb)
    (htiles : t.tiles = s.tiles) (hdirty : t.dirty = s.dirty) : t.FbOk := by
  have hisDirty : t.isDirty = s.isDirty := funext fun i => by simp only [State.isDirty, hdirty]
  simpa only [State.FbOk, State.fbInv, State.dirtyTotal, hparams, hfb, htiles, hdirty, hisDirty] using h

/-- What `State.Inv` speaks of. -/
def State.invPart (s : State) : Params × Fb × Ram 8 × Ram 1 × Stack × Stack × Bool :=
  (s.params, s.fb, s.tiles, s.dirty, s.stk, s.fstk, s.busMode)

/-- The parts of `State.Inv` by the records they speak of. -/
theorem inv_iff (s : State) :
    s.Inv ↔ s.params.wf ∧ s.FbOk ∧ stackInv s.params.stackMaxEntries s.stk ∧ s.fstk = Stack.none ∧ s.busMode = true := by
  unfold State.Inv State.FbOk
  tauto

/-- `State.Inv` speaks of `State.invPart` only. -/
theorem State.Inv.congr {s t : State} (h : s.Inv) (hpart : t.invPart = s.invPart) : t.Inv := by
  simp only [State.invPart, Prod.mk.injEq] at hpart
  obtain ⟨hparams, hfb, htiles, hdirty, hstk, hfstk, hbus⟩ := hpart
  rw [inv_iff] at h ⊢
  obtain ⟨hwf, hok, hrest⟩ := h
  exact ⟨hparams ▸ hwf, hok.congr hparams hfb htiles hdirty, by rwa [hparams, hstk, hfstk, hbus]⟩

/-- A tile of the framebuffer exists only while it is allocated. -/
theorem fb_alloc_of_lt_ntiles {s : State} (h : s.fbInv) {i : Nat} (hi : i < s.fb.ntiles) : s.fb.alloc = true := by
  by_contra hnot
  have hnone := h.1 (by simpa using hnot)
  simp [hnone, Fb.none] at hi

/-- The tile of an in-bounds pixel is one of the framebuffer's (20_memory.md R80). -/
theorem tileIndex_lt_ntiles {s : State} (h : s.fbInv) {x y : Int} (hb : s.inBounds x y = true) :
    s.tileIndex x y < s.fb.ntiles := by
  obtain ⟨hnone, hsome⟩ := h
  simp only [State.inBounds, Bool.and_eq_true, decide_eq_true_eq] at hb
  obtain ⟨⟨⟨hx0, hx⟩, hy0⟩, hy⟩ := hb
  cases halloc : s.fb.alloc with
  | false => simp only [hnone halloc, Fb.none] at hx; omega
  | true =>
    obtain ⟨-, -, -, -, hpages, hntiles, -, -⟩ := hsome halloc
    have hrow : y.toNat / 8 + 1 ≤ s.fb.pages := by omega
    have hcol : x.toNat < s.fb.columns := by omega
    calc s.tileIndex x y = y.toNat / 8 * s.fb.columns + x.toNat := rfl
      _ < y.toNat / 8 * s.fb.columns + s.fb.columns := by omega
      _ = (y.toNat / 8 + 1) * s.fb.columns := by ring
      _ ≤ s.fb.pages * s.fb.columns := Nat.mul_le_mul_right _ hrow
      _ = s.fb.ntiles := by rw [hntiles, Nat.mul_comm]

/-- A change of dirty bits keeps the framebuffer's invariants if the counter follows it. -/
theorem State.FbOk.setDirtyRam_setCount {s : State} (h : s.FbOk) {m : Ram 1} {n : Nat} (hm : m.wf)
    (hnone : s.fb.alloc = false → n = 0) (hsome : s.fb.alloc = true → n = (s.setDirtyRam m).dirtyTotal) :
    ((s.setDirtyRam m).setCount n).FbOk := by
  obtain ⟨⟨hfree, halloc⟩, htiles, -⟩ := h
  refine ⟨⟨fun hf => ?_, fun ha => ?_⟩, htiles, hm⟩
  · simp only [setCount_fb, setDirtyRam_fb] at hf ⊢
    rw [hfree hf, hnone hf]
    rfl
  · obtain ⟨hc1, hc2, hh1, hh2, hpages, hntiles, hmax, -⟩ := halloc ha
    exact ⟨hc1, hc2, hh1, hh2, hpages, hntiles, hmax, hsome ha⟩

theorem State.FbOk.setTile {s : State} (h : s.FbOk) (i : Nat) (b : Byte) : (s.setTile i b).FbOk := by
  obtain ⟨hfb, htiles, hdirty⟩ := h
  exact ⟨hfb, Ram.write_wf htiles i b, hdirty⟩

/-- Marking a tile dirty keeps FB.count the number of dirty tiles (10_state.md R34). -/
theorem State.FbOk.markDirty {s : State} (h : s.FbOk) {i : Nat} (hi : i < s.fb.ntiles) : (s.markDirty i).FbOk := by
  have ⟨hfb, _, hdirty⟩ := h
  have halloc := fb_alloc_of_lt_ntiles hfb hi
  unfold State.markDirty
  split
  · exact h
  · rename_i hclean
    refine h.setDirtyRam_setCount (Ram.write_wf hdirty _ _) (fun hf => by simp [halloc] at hf) fun _ => ?_
    obtain ⟨-, -, -, -, -, -, -, hcount⟩ := hfb.2 halloc
    rw [hcount]
    exact (dirtyTotal_markDirty hi (by simpa using hclean)).symm

/-- Cleaning a dirty tile keeps FB.count the number of dirty tiles (41_display.md R170). -/
theorem State.FbOk.cleanTile {s : State} (h : s.FbOk) {i : Nat} (hi : i < s.fb.ntiles) (hd : s.isDirty i = true) :
    (s.cleanTile i).FbOk := by
  have ⟨hfb, _, hdirty⟩ := h
  have halloc := fb_alloc_of_lt_ntiles hfb hi
  refine h.setDirtyRam_setCount (Ram.write_wf hdirty _ _) (fun hf => by simp [halloc] at hf) fun _ => ?_
  obtain ⟨-, -, -, -, -, -, -, hcount⟩ := hfb.2 halloc
  rw [hcount, dirtyTotal_cleanTile hi hd]
  rfl

/-- The end of a full update leaves every tile clean and FB.count 0 (41_display.md R169). -/
theorem State.FbOk.allClean {s : State} (h : s.FbOk) : s.allClean.FbOk :=
  h.setDirtyRam_setCount Ram.zeroed_wf (fun _ => rfl) fun _ => (dirtyTotal_eq_zero fun _ => rfl).symm

/-- A pixel write keeps the framebuffer's invariants (40_framebuffer.md R132). -/
theorem State.FbOk.pixelSet {s : State} (h : s.FbOk) (x y : Int) (v : Bool) : (pixelSet s x y v).1.FbOk := by
  rcases pixelSet_cases s x y v with ⟨-, hset⟩ | ⟨-, hset⟩ | ⟨hget, hset⟩ <;> rw [hset]
  · exact h
  · exact h
  · have hb : s.inBounds x y = true := by
      by_contra hb
      simp [pixelGet, hb] at hget
    exact (h.setTile _ _).markDirty (tileIndex_lt_ntiles h.1 hb)

/-! ## Stacks -/

theorem stackInv_none (maxEntries : Nat) : stackInv maxEntries Stack.none := by
  simp [stackInv, Stack.none, Stack.count]

theorem stackInv_stackAlloc {maxEntries c : Nat} {S : Stack} (h : stackAlloc maxEntries c = some S) :
    stackInv maxEntries S := by
  rw [stackAlloc_eq] at h
  split at h
  · rename_i hfits
    cases h
    exact ⟨Nat.zero_le _, hfits, fun _ => le_max_left 1 c, fun hf => by cases hf⟩
  · cases h

/-- A push keeps count at most the capacity and the capacity within the limit (43_fill_stack.md R235). -/
theorem stackInv_stackPush {maxEntries : Nat} {S T : Stack} {v : Half} (h : stackInv maxEntries S)
    (halloc : S.alloc = true) (hpush : stackPush maxEntries S v = some T) : stackInv maxEntries T := by
  obtain ⟨hcount, hcap, hpos, -⟩ := h
  have hpos := hpos halloc
  have hfree (h : S.alloc = false) : False := by simp [halloc] at h
  rcases stackPush_cases maxEntries S v with ⟨-, -, hp⟩ | ⟨hfull, hfits, hp⟩ | ⟨hroom, hp⟩ <;> rw [hp] at hpush <;>
    cases hpush
  · have hdoubled : S.count + 1 ≤ 2 * S.cap := by omega
    have hpos : 1 ≤ 2 * S.cap := by omega
    exact ⟨hdoubled, hfits, fun _ => hpos, fun h => (hfree h).elim⟩
  · have hroom : S.count + 1 ≤ S.cap := by omega
    exact ⟨hroom, hcap, fun _ => hpos, fun h => (hfree h).elim⟩

theorem stackInv_stackPop {maxEntries : Nat} {S T : Stack} {v : Half} (h : stackInv maxEntries S)
    (halloc : S.alloc = true) (hpop : stackPop S = some (v, T)) : stackInv maxEntries T := by
  obtain ⟨hcount, hcap, hpos, -⟩ := h
  obtain ⟨rest, hentries, rfl⟩ := stackPop_eq_some.1 hpop
  refine ⟨?_, hcap, hpos, fun hf => by simp [halloc] at hf⟩
  simp only [Stack.count, hentries, List.length_cons] at hcount ⊢
  omega

/-! ## The invariants after reset -/

/-- A state with the reset values of the records satisfies the invariants (70_reset_and_hazards.md R291). -/
theorem inv_of_reset_values {s : State} (hparams : s.params.wf) (hfb : s.fb = Fb.none) (hstk : s.stk = Stack.none)
    (hfstk : s.fstk = Stack.none) (hbus : s.busMode = true) (htiles : s.tiles.wf) (hdirty : s.dirty.wf) : s.Inv := by
  refine ⟨hparams, ⟨fun _ => hfb, fun ha => ?_⟩, ?_, hfstk, hbus, htiles, hdirty⟩
  · simp [hfb, Fb.none] at ha
  · rw [hstk]
    exact stackInv_none _

end Sys2Proof.Machine
end

section
/-! SUPPORT. What the pixel procedures, the rasterizers and the fill engine write (40_framebuffer.md R132, 42_draw.md R200,
43_fill_stack.md R231): the tile and dirty RAM and FB.count, and the fill engine its own stack. -/

namespace Sys2Proof.Machine

open Sys2Proof

/-- `t` is `s` after pixel work: only the two RAMs, FB.count and FSTK may differ, and the framebuffer's invariants hold of
`t` if they hold of `s`. -/
def PixelWork (s t : State) : Prop :=
  (∃ tiles dirty count fstk,
    t = { s with tiles := tiles, dirty := dirty, fb := { s.fb with count := count }, fstk := fstk }) ∧
  (s.FbOk → t.FbOk)

theorem PixelWork.refl (s : State) : PixelWork s s := ⟨⟨s.tiles, s.dirty, s.fb.count, s.fstk, rfl⟩, id⟩

theorem PixelWork.trans {s t u : State} (h : PixelWork s t) (h' : PixelWork t u) : PixelWork s u := by
  obtain ⟨⟨_, _, _, _, rfl⟩, hok⟩ := h
  obtain ⟨⟨tiles, dirty, count, fstk, rfl⟩, hok'⟩ := h'
  exact ⟨⟨tiles, dirty, count, fstk, rfl⟩, hok' ∘ hok⟩

theorem PixelWork.setFstk (s : State) (S : Stack) : PixelWork s (s.setFstk S) :=
  ⟨⟨s.tiles, s.dirty, s.fb.count, S, rfl⟩, fun h => h.congr rfl rfl rfl rfl⟩

theorem pixelWork_pixelSet (s : State) (x y : Int) (v : Bool) : PixelWork s (pixelSet s x y v).1 := by
  obtain ⟨tiles, dirty, count, h⟩ := pixelSet_frame s x y v
  exact ⟨⟨tiles, dirty, count, s.fstk, h⟩, fun hok => hok.pixelSet x y v⟩

@[simp] theorem pixelSet_fstk (s : State) (x y : Int) (v : Bool) : (pixelSet s x y v).1.fstk = s.fstk := by
  obtain ⟨tiles, dirty, count, h⟩ := pixelSet_frame s x y v
  rw [h]

/-! ## Rasterizers -/

theorem pixelWork_plotAll (v : Bool) (pts : List Pt) (s : State) : PixelWork s (plotAll v pts s) := by
  induction pts generalizing s with
  | nil => exact .refl s
  | cons p ps ih => exact (pixelWork_pixelSet s p.1 p.2 v).trans (ih _)

@[simp] theorem plotAll_fstk (v : Bool) (pts : List Pt) (s : State) : (plotAll v pts s).fstk = s.fstk := by
  induction pts generalizing s with
  | nil => rfl
  | cons p ps ih => exact (ih _).trans (pixelSet_fstk s p.1 p.2 v)

/-! ## The fill engine -/

theorem pixelWork_pushSeedEntry (v : Half) (s : State) : PixelWork s (pushSeedEntry v s).1 := by
  unfold pushSeedEntry
  split
  · exact .setFstk s _
  · exact .refl s

theorem pixelWork_pushSeed (x y : Int) (s : State) : PixelWork s (pushSeed x y s).1 := by
  have hx := pixelWork_pushSeedEntry (BitVec.ofInt 16 x) s
  unfold pushSeed
  dsimp only
  split
  · exact hx.trans (pixelWork_pushSeedEntry _ _)
  · exact hx

theorem pixelWork_fillSide (m : Bool) (x yy : Int) (latch : Bool) (s : State) :
    PixelWork s (fillSide m x yy latch s).1.1 := by
  unfold fillSide
  split
  · exact .refl s
  · split
    · split
      · exact .refl s
      · exact pixelWork_pushSeed x yy s
    · exact .refl s

theorem pixelWork_scanRight (m n : Bool) (y : Int) (k : Nat) (x : Int) (above below : Bool) (s : State) :
    PixelWork s (scanRight m n y k x above below s).1 := by
  induction k generalizing x above below s with
  | zero => exact .refl s
  | succ k ih =>
    have habove := (pixelWork_pixelSet s x y n).trans (pixelWork_fillSide m x (y - 1) above (pixelSet s x y n).1)
    have hbelow := habove.trans (pixelWork_fillSide m x (y + 1) below _)
    unfold scanRight
    dsimp only
    split
    · split
      · split
        · exact hbelow.trans (ih _ _ _ _)
        · exact hbelow
      · exact habove
    · exact .refl s

theorem pixelWork_fillSeed (m n : Bool) (x y : Int) (s : State) : PixelWork s (fillSeed m n x y s).1 := by
  unfold fillSeed
  split
  · exact pixelWork_scanRight ..
  · exact .refl s

theorem pixelWork_fillLoop (m n : Bool) (k : Nat) (s : State) : PixelWork s (fillLoop m n k s).1 := by
  induction k generalizing s with
  | zero => exact .refl s
  | succ k ih =>
    unfold fillLoop
    split
    · exact .refl s
    · rename_i y S₁ _
      split
      · exact .setFstk s S₁
      · rename_i x S₂ _
        have hseed := (PixelWork.setFstk s S₂).trans (pixelWork_fillSeed m n x.toNat y.toNat (s.setFstk S₂))
        dsimp only
        split
        · exact hseed.trans (ih _)
        · exact hseed

theorem pixelWork_fillWalk (x y : Int) (m n : Bool) (s : State) : PixelWork s (fillWalk x y m n s).1 := by
  have hseed := pixelWork_pushSeed x y s
  unfold fillWalk
  dsimp only
  split
  · exact hseed.trans (pixelWork_fillLoop ..)
  · exact hseed

/-- A fill ends early with a status only, or has done pixel work and released FSTK (43_fill_stack.md R231). -/
theorem fill_cases (x y : Int) (m n : Bool) (s : State) :
    (∃ c, fill x y m n s = s.finish c) ∨
    ∃ t c, PixelWork s t ∧ fill x y m n s = (t.setFstk Stack.none).finish c := by
  unfold fill
  split
  · exact .inl ⟨_, rfl⟩
  · split
    · exact .inl ⟨_, rfl⟩
    · split
      · exact .inl ⟨_, rfl⟩
      · exact .inr ⟨_, _, (PixelWork.setFstk s _).trans (pixelWork_fillWalk ..), rfl⟩

end Sys2Proof.Machine
end

section
/-! SUPPORT. What the display commands do on the bus and to the dirty bits (20_memory.md R74-R78, 41_display.md R160-R173),
whatever the transport answers. -/

namespace Sys2Proof.Machine

open Sys2Proof

/-- The events a procedure run in state `s` may append to the log: its writes are held pairs to the configured address, and
if it was started with BUSMODE = 1 and sent anything, the last event is a stop (20_memory.md R74, R77, R78). -/
def HeldAndReleased (s : State) (evs : List BusEvent) : Prop :=
  (∀ a bytes held st, BusEvent.write a bytes held st ∈ evs →
    held = true ∧ a = s.disp.conf.addr ∧ ∃ b, bytes = [s.params.typeCmd, b] ∨ bytes = [s.params.typeData, b]) ∧
  (s.busMode = true → evs ≠ [] → evs.getLast? = some .stop)

theorem heldAndReleased_nil (s : State) : HeldAndReleased s [] := by simp [HeldAndReleased]

theorem HeldAndReleased.append {s : State} {evs evs' : List BusEvent} (h : HeldAndReleased s evs)
    (h' : HeldAndReleased s evs') : HeldAndReleased s (evs ++ evs') := by
  obtain ⟨hwrites, hlast⟩ := h
  obtain ⟨hwrites', hlast'⟩ := h'
  refine ⟨fun a bytes held st hmem => ?_, fun hmode hne => ?_⟩
  · rcases List.mem_append.1 hmem with hmem | hmem
    · exact hwrites a bytes held st hmem
    · exact hwrites' a bytes held st hmem
  · by_cases hnil : evs' = []
    · subst hnil
      simpa using hlast hmode (by simpa using hne)
    · rw [List.getLast?_append, hlast' hmode hnil]
      rfl

/-- `t` is `s` after bus traffic alone: the events appended to the log, the answers taken, nothing else. -/
def Traffic (s t : State) : Prop := ∃ evs answers, t = s.afterEvents evs answers ∧ HeldAndReleased s evs

theorem Traffic.refl (s : State) : Traffic s s := ⟨[], s.busAnswers, rfl, heldAndReleased_nil s⟩

theorem Traffic.trans {s t u : State} (h : Traffic s t) (h' : Traffic t u) : Traffic s u := by
  obtain ⟨evs, _, rfl, hevs⟩ := h
  obtain ⟨evs', answers, rfl, hevs'⟩ := h'
  exact ⟨evs ++ evs', answers, by simp [State.afterEvents], hevs.append hevs'⟩

theorem Traffic.busMode {s t : State} (h : Traffic s t) : t.busMode = s.busMode := by
  obtain ⟨_, _, rfl, -⟩ := h
  rfl

/-- Steps in order: the second runs exactly when the first returned OK (20_memory.md R74). -/
theorem andThen_cases (p q : BusProc) (s : State) :
    ((p s).2 ≠ .ok ∧ andThen p q s = p s) ∨ ((p s).2 = .ok ∧ andThen p q s = q (p s).1) := by
  by_cases hok : (p s).2 = .ok
  · exact .inr ⟨hok, by simp only [andThen, hok]⟩
  · exact .inl ⟨hok, by simp only [andThen]⟩

/-- Steps in order may be grouped either way. -/
theorem andThen_assoc (p q r : BusProc) : andThen p (andThen q r) = andThen (andThen p q) r := by
  funext s
  simp only [andThen]
  cases hp : (p s).2 <;> simp [hp]

theorem Traffic.andThen {s : State} {p q : BusProc} (hp : Traffic s (p s).1)
    (hq : ∀ t, Traffic s t → Traffic t (q t).1) : Traffic s (andThen p q s).1 := by
  rcases andThen_cases p q s with ⟨-, h⟩ | ⟨-, h⟩ <;> rw [h]
  · exact hp
  · exact hp.trans (hq _ hp)

theorem traffic_busWrite {s : State} (h : s.busMode = false) {type : Byte}
    (htype : type = s.params.typeCmd ∨ type = s.params.typeData) (b : Byte) :
    Traffic s (busWrite s.disp.conf.addr [type, b] s).1 := by
  refine ⟨[.write s.disp.conf.addr [type, b] true (s.nextAnswer s.disp.conf.addr [type, b] true)], s.busAnswers.tail,
    by simp [busWrite, h, State.afterEvents, State.logEvent, State.dropAnswer], ?_, by simp [h]⟩
  intro a bytes held st hmem
  simp only [List.mem_singleton, BusEvent.write.injEq] at hmem
  obtain ⟨rfl, rfl, rfl, -⟩ := hmem
  exact ⟨rfl, rfl, b, htype.imp (congrArg ([·, b])) (congrArg ([·, b]))⟩

theorem traffic_cmdBytes (bs : List Byte) {s : State} (h : s.busMode = false) : Traffic s (cmdBytes bs s).1 := by
  induction bs generalizing s with
  | nil => exact .refl s
  | cons b bs ih => exact .andThen (traffic_busWrite h (.inl rfl) b) fun t ht => ih (ht.busMode.trans h)

/-- A wrap around traffic is traffic, in every mode: an outermost wrap adds the stop, a nested one nothing
(20_memory.md R74). -/
theorem traffic_seq {s : State} {body : BusProc}
    (h : Traffic (s.setBusMode false) (body (s.setBusMode false)).1) : Traffic s (seq body s).1 := by
  obtain ⟨evs, answers, hst, hwrites, -⟩ := h
  cases hmode : s.busMode with
  | false =>
    refine ⟨evs, answers, ?_, hwrites, by simp [hmode]⟩
    simp only [seq, seqExit, hst, hmode]
    cases s; simp_all [State.setBusMode, State.afterEvents]
  | true =>
    refine ⟨evs ++ [.stop], answers, ?_, fun a bytes held st hmem => ?_, by simp⟩
    · simp only [seq, seqExit, hst, hmode, busStop]
      cases s; simp_all [State.setBusMode, State.afterEvents, State.logEvent]
    · exact hwrites a bytes held st (by simpa using hmem)

theorem traffic_seq_cmdBytes (bs : List Byte) (s : State) : Traffic s (seq (cmdBytes bs) s).1 :=
  traffic_seq (traffic_cmdBytes bs rfl)

theorem traffic_setPageRange (b e : Byte) (s : State) : Traffic s (setPageRange b e s).1 := traffic_seq_cmdBytes _ s

theorem traffic_setColRange (b e : Byte) (s : State) : Traffic s (setColRange b e s).1 := traffic_seq_cmdBytes _ s

/-! ## DISP_INIT -/

theorem traffic_initSequence (d : Disp) (s : State) : Traffic s (initSequence d s).1 := by
  refine traffic_seq (.andThen (traffic_cmdBytes _ rfl) fun t ht => ?_)
  refine .andThen (traffic_setPageRange _ _ t) fun u hu => ?_
  refine .andThen (traffic_setColRange _ _ u) fun v hv => ?_
  exact traffic_cmdBytes _ (by rw [hv.busMode, hu.busMode, ht.busMode]; rfl)

theorem traffic_flipSequence (wanted : Bool) (b : Byte) (s : State) : Traffic s (flipSequence wanted b s).1 := by
  cases wanted
  · exact .refl s
  · exact traffic_seq_cmdBytes _ s

theorem traffic_initAll (d : Disp) (s : State) : Traffic s (initAll d s).1 :=
  .andThen (traffic_initSequence d s) fun _ _ =>
    .andThen (traffic_flipSequence _ _ _) fun _ _ => traffic_flipSequence _ _ _

/-! ## The update commands -/

/-- `t` is `s` after bus traffic and after dirty bits and FB.count were written, the framebuffer's invariants kept. -/
def UpdateWork (s t : State) : Prop :=
  ∃ m n, Traffic ((s.setDirtyRam m).setCount n) t ∧ (s.FbOk → ((s.setDirtyRam m).setCount n).FbOk)

theorem Traffic.updateWork {s t : State} (h : Traffic s t) : UpdateWork s t := ⟨s.dirty, s.fb.count, h, id⟩

theorem UpdateWork.setDirtyRam_setCount {s : State} {m : Ram 1} {n : Nat}
    (h : s.FbOk → ((s.setDirtyRam m).setCount n).FbOk) : UpdateWork s ((s.setDirtyRam m).setCount n) :=
  ⟨m, n, .refl _, h⟩

theorem UpdateWork.trans {s t u : State} (h : UpdateWork s t) (h' : UpdateWork t u) : UpdateWork s u := by
  obtain ⟨m, n, ⟨evs, _, rfl, hevs⟩, hok⟩ := h
  obtain ⟨m', n', ⟨evs', answers, rfl, hevs'⟩, hok'⟩ := h'
  refine ⟨m', n', ⟨evs ++ evs', answers, by simp [State.afterEvents, State.setDirtyRam, State.setCount],
    hevs.append hevs'⟩, fun h => ?_⟩
  exact (hok' ((hok h).congr rfl rfl rfl rfl)).congr rfl rfl rfl rfl

theorem UpdateWork.fbOk {s t : State} (h : UpdateWork s t) (hs : s.FbOk) : t.FbOk := by
  obtain ⟨_, _, ⟨_, _, rfl, -⟩, hok⟩ := h
  exact (hok hs).congr rfl rfl rfl rfl

theorem UpdateWork.busMode {s t : State} (h : UpdateWork s t) : t.busMode = s.busMode := by
  obtain ⟨_, _, ht, -⟩ := h
  exact ht.busMode

theorem UpdateWork.ntiles {s t : State} (h : UpdateWork s t) : t.fb.ntiles = s.fb.ntiles := by
  obtain ⟨_, _, ⟨_, _, rfl, -⟩, -⟩ := h
  rfl

theorem UpdateWork.andThen {s : State} {p q : BusProc} (hp : UpdateWork s (p s).1)
    (hq : ∀ t, UpdateWork s t → UpdateWork t (q t).1) : UpdateWork s (andThen p q s).1 := by
  rcases andThen_cases p q s with ⟨-, h⟩ | ⟨-, h⟩ <;> rw [h]
  · exact hp
  · exact hp.trans (hq _ hp)

/-- A wrap around update work: the writes of dirty bits commute with the wrap's own steps, which do not look at them. -/
theorem updateWork_seq {s : State} {body : BusProc}
    (h : UpdateWork (s.setBusMode false) (body (s.setBusMode false)).1) : UpdateWork s (seq body s).1 := by
  obtain ⟨m, n, ht, hok⟩ := h
  refine ⟨m, n, ?_, fun hs => (hok (hs.congr rfl rfl rfl rfl)).congr rfl rfl rfl rfl⟩
  exact traffic_seq (s := (s.setDirtyRam m).setCount n) (body := fun _ => body (s.setBusMode false)) ht

theorem traffic_sendTiles (k i : Nat) {s : State} (h : s.busMode = false) : Traffic s (sendTiles k i s).1 := by
  induction k generalizing i s with
  | zero => exact .refl s
  | succ k ih => exact .andThen (traffic_busWrite h (.inr rfl) _) fun t ht => ih _ (ht.busMode.trans h)

theorem traffic_seq_updateAllBody (s : State) : Traffic s (seq (updateAllBody s) s).1 := by
  refine traffic_seq (.andThen (traffic_setPageRange _ _ _) fun t ht => ?_)
  refine .andThen (traffic_setColRange _ _ t) fun u hu => ?_
  exact traffic_sendTiles _ _ (by rw [hu.busMode, ht.busMode]; rfl)

theorem updateWork_updateAll (s : State) : ∃ t c, updateAll s = t.finish c ∧ UpdateWork s t :=
  ⟨_, _, rfl, .andThen (traffic_seq_updateAllBody s).updateWork fun _ _ => .setDirtyRam_setCount State.FbOk.allClean⟩

theorem traffic_addressTile (prev : Option Nat) (i pages : Nat) (s : State) :
    Traffic s (addressTile prev i pages s).1 := by
  unfold addressTile
  split
  · exact .refl s
  · exact .andThen (traffic_setPageRange _ _ s) fun t _ => traffic_setColRange _ _ t

/-- A dirty tile is sent and cleaned, or a write of it failed and it stays dirty (41_display.md R170). -/
theorem updateWork_sendDirtyTile (prev : Option Nat) {i : Nat} {s : State} (hmode : s.busMode = false)
    (hi : i < s.fb.ntiles) (hdirty : s.isDirty i = true) : UpdateWork s (sendDirtyTile prev i s).1 := by
  unfold sendDirtyTile
  rw [andThen_assoc]
  have hsend : Traffic s (andThen (addressTile prev i s.fb.pages) (fun t => dataByte (t.tile i) t) s).1 :=
    .andThen (traffic_addressTile prev i _ s) fun t ht => traffic_busWrite (ht.busMode.trans hmode) (.inr rfl) _
  rcases andThen_cases (andThen (addressTile prev i s.fb.pages) fun t => dataByte (t.tile i) t)
    (fun t => (t.cleanTile i, .ok)) s with ⟨-, h⟩ | ⟨-, h⟩ <;> rw [h]
  · exact hsend.updateWork
  · refine hsend.updateWork.trans (.setDirtyRam_setCount fun hok => ?_)
    obtain ⟨evs, answers, hst, -⟩ := hsend
    rw [hst] at hok ⊢
    exact hok.cleanTile hi hdirty

theorem updateWork_diffWalk (k i : Nat) (prev : Option Nat) {s : State} (hmode : s.busMode = false)
    (hi : i + k ≤ s.fb.ntiles) : UpdateWork s (diffWalk k i prev s).1 := by
  induction k generalizing i prev s with
  | zero => exact (Traffic.refl s).updateWork
  | succ k ih =>
    unfold diffWalk
    split
    · rename_i hdirty
      refine .andThen (updateWork_sendDirtyTile prev hmode (by omega) hdirty) fun t ht => ?_
      split
      · exact (Traffic.refl t).updateWork
      · exact ih _ _ (ht.busMode.trans hmode) (by rw [ht.ntiles]; omega)
    · exact ih _ _ hmode (by omega)

theorem updateWork_updateDiff (s : State) : ∃ t c, updateDiff s = t.finish c ∧ UpdateWork s t := by
  unfold updateDiff
  split
  · exact ⟨s, .ok, rfl, (Traffic.refl s).updateWork⟩
  · exact ⟨_, _, rfl, updateWork_seq (updateWork_diffWalk _ _ _ rfl (by simp))⟩

end Sys2Proof.Machine
end

section
/-! SUPPORT. What a command can do, said once for all 21 (30_encoding.md R106): every command ends by `finish`, and before
that has done one of the works below. -/

namespace Sys2Proof.Machine

open Sys2Proof

/-- `CommandWork s i t c`: the command `i` run in `s` has made `s` into `t` and now finishes with `c`.  One constructor per
kind of work, with the facts that the invariants and frames of a command rest on. -/
inductive CommandWork (s : State) : Instr → State → Status → Prop
  /-- A check failed, or there was nothing to do. -/
  | idle {i : Instr} (c : Status) : CommandWork s i s c
  /-- FB_CREATE allocates (40_framebuffer.md R133). -/
  | fbCreate {w h : Nat} (hw : 1 ≤ w ∧ w ≤ maxDim) (hh : 1 ≤ h ∧ h ≤ maxDim)
      (hfits : w * ((h + 7) / 8) ≤ s.params.fbMaxTiles) :
      CommandWork s .fbCreate
        (((s.setFb ⟨true, w, h, (h + 7) / 8, w * ((h + 7) / 8), 0⟩).setDirtyRam (Ram.zeroed 1)).setTiles
          (Ram.unspecified 8 s.draws)).drew .ok
  /-- FB_CLEAR zeroes every tile and makes it dirty (R134). -/
  | fbClear (halloc : s.fb.alloc = true) :
      CommandWork s .fbClear
        (((s.setTiles (Ram.zeroed 8)).setDirtyRam (Ram.onesBelow s.fb.ntiles)).setCount s.fb.ntiles) .ok
  /-- FB_DESTROY releases the framebuffer (R137). -/
  | fbDestroy :
      CommandWork s .fbDestroy
        (((s.setFb Fb.none).setTiles (Ram.unspecified 8 s.draws)).setDirtyRam (Ram.unspecified 1 s.draws)).drew .ok
  /-- FB_GET_PIXEL puts the pixel in RESULT (R136). -/
  | fbGetPixel (b : Bool) : CommandWork s .fbGetPixel (s.setResult ((BitVec.ofBool b).zeroExtend 32)) .ok
  /-- FB_SET_PIXEL and the rasterizers write pixels (R135, 42_draw.md R200). -/
  | pixels {i : Instr} {t : State} {c : Status} (hi : needsFramebuffer i = true) (ht : PixelWork s t)
      (hfstk : t.fstk = s.fstk) : CommandWork s i t c
  /-- DRAW_FILL writes pixels and releases FSTK (43_fill_stack.md R231). -/
  | fill {v m : Bool} {t : State} {c : Status} (ht : PixelWork s t) :
      CommandWork s (.drawFill v m) (t.setFstk Stack.none) c
  /-- DISP_INIT latches CFG and sends its sequences (41_display.md R164). -/
  | dispInit {t : State} {c : Status} (ht : Traffic (s.setDisp ⟨true, s.cfg⟩) t) : CommandWork s .dispInit t c
  /-- The other display commands send, and the updates clean tiles (41_display.md R166-R173). -/
  | display {i : Instr} {t : State} {c : Status} (hi : needsDisplay i = true) (ht : UpdateWork s t) :
      CommandWork s i t c
  /-- STK_ALLOC, STK_PUSH and STK_DEALLOC write STK (43_fill_stack.md R238, R239, R241). -/
  | stack {i : Instr} {S : Stack} (hi : i ∈ [.stkAlloc, .stkPush, .stkDealloc])
      (hS : stackInv s.params.stackMaxEntries s.stk → stackInv s.params.stackMaxEntries S) :
      CommandWork s i (s.setStk S) .ok
  /-- STK_POP writes STK and RESULT (R240). -/
  | stkPop {v : Half} {S : Stack}
      (hS : stackInv s.params.stackMaxEntries s.stk → stackInv s.params.stackMaxEntries S) :
      CommandWork s .stkPop ((s.setStk S).setResult (v.zeroExtend 32)) .ok

/-- The command `i` run in `s` answers a next state, `finish` of a state its work can leave. -/
def FinishesItsWork (s : State) (i : Instr) (o : Host.Outcome State Fault Refusal) : Prop :=
  ∃ t c, o = .next (t.finish c) ∧ CommandWork s i t c

theorem finishesItsWork_idle (s : State) (i : Instr) (c : Status) : FinishesItsWork s i (.next (s.finish c)) :=
  ⟨s, c, rfl, .idle c⟩

/-! ## The framebuffer commands -/

theorem execFbCreate_finishes (s : State) : FinishesItsWork s .fbCreate (execFbCreate s) := by
  unfold execFbCreate fbCreate
  split
  · exact finishesItsWork_idle ..
  · split
    · rename_i hdims
      obtain ⟨hw, hw', hh, hh'⟩ := hdims
      dsimp only
      split
      · exact ⟨_, _, rfl, .fbCreate ⟨hw, hw'⟩ ⟨hh, hh'⟩ ‹_›⟩
      · exact finishesItsWork_idle ..
    · exact finishesItsWork_idle ..

theorem execFbClear_finishes (s : State) : FinishesItsWork s .fbClear (execFbClear s) := by
  unfold execFbClear
  split
  · exact ⟨_, _, rfl, .fbClear ‹_›⟩
  · exact finishesItsWork_idle ..

theorem execFbSetPixel_finishes (v : Bool) (s : State) :
    FinishesItsWork s (.fbSetPixel v) (execFbSetPixel v s) := by
  unfold execFbSetPixel
  split
  · exact ⟨_, _, rfl, .pixels rfl (pixelWork_pixelSet ..) (pixelSet_fstk ..)⟩
  · exact finishesItsWork_idle ..

theorem execFbGetPixel_finishes (s : State) : FinishesItsWork s .fbGetPixel (execFbGetPixel s) := by
  unfold execFbGetPixel
  split
  · split
    · exact ⟨_, _, rfl, .fbGetPixel _⟩
    · exact finishesItsWork_idle ..
  · exact finishesItsWork_idle ..

theorem execFbDestroy_finishes (s : State) : FinishesItsWork s .fbDestroy (execFbDestroy s) := by
  unfold execFbDestroy
  split
  · exact ⟨_, _, rfl, .fbDestroy⟩
  · exact finishesItsWork_idle ..

/-! ## Drawing -/

theorem rasterCommand_finishes {i : Instr} (hi : needsFramebuffer i = true) (pts : List Pt) (v : Bool) (s : State) :
    FinishesItsWork s i (.next (rasterCommand pts v s)) := by
  unfold rasterCommand
  split
  · exact ⟨_, _, rfl, .pixels hi (pixelWork_plotAll ..) (plotAll_fstk ..)⟩
  · exact finishesItsWork_idle ..

theorem execDrawFill_finishes (v m : Bool) (s : State) : FinishesItsWork s (.drawFill v m) (execDrawFill v m s) := by
  unfold execDrawFill
  split
  · rcases fill_cases (s.s16 0) (s.s16 1) m v s with ⟨c, h⟩ | ⟨t, c, ht, h⟩ <;> rw [h]
    · exact finishesItsWork_idle ..
    · exact ⟨_, _, rfl, .fill ht⟩
  · exact finishesItsWork_idle ..

/-! ## The display commands -/

theorem execDispInit_finishes (s : State) : FinishesItsWork s .dispInit (execDispInit s) :=
  ⟨_, _, rfl, .dispInit (traffic_initAll ..)⟩

theorem execDispOn_finishes (v : Bool) (s : State) : FinishesItsWork s (.dispOn v) (execDispOn v s) := by
  unfold execDispOn
  split
  · exact ⟨_, _, rfl, .display rfl (traffic_seq_cmdBytes _ s).updateWork⟩
  · exact finishesItsWork_idle ..

theorem updateAll_finishes {i : Instr} (hi : needsDisplay i = true) (s : State) :
    FinishesItsWork s i (.next (updateAll s)) := by
  obtain ⟨t, c, h, ht⟩ := updateWork_updateAll s
  exact ⟨t, c, by rw [h], .display hi ht⟩

theorem updateDiff_finishes {i : Instr} (hi : needsDisplay i = true) (s : State) :
    FinishesItsWork s i (.next (updateDiff s)) := by
  obtain ⟨t, c, h, ht⟩ := updateWork_updateDiff s
  exact ⟨t, c, by rw [h], .display hi ht⟩

theorem execDispUpdate_finishes (s : State) : FinishesItsWork s .dispUpdate (execDispUpdate s) := by
  unfold execDispUpdate
  split
  · split
    · exact finishesItsWork_idle ..
    · split
      · exact updateAll_finishes rfl s
      · exact updateDiff_finishes rfl s
  · exact finishesItsWork_idle ..

theorem execDispUpdateAll_finishes (s : State) : FinishesItsWork s .dispUpdateAll (execDispUpdateAll s) := by
  unfold execDispUpdateAll
  split
  · exact updateAll_finishes rfl s
  · exact finishesItsWork_idle ..

theorem execDispUpdateDiff_finishes (s : State) : FinishesItsWork s .dispUpdateDiff (execDispUpdateDiff s) := by
  unfold execDispUpdateDiff
  split
  · exact updateDiff_finishes rfl s
  · exact finishesItsWork_idle ..

theorem rangeCommand_finishes {i : Instr} (hi : needsDisplay i = true) {send : Byte → Byte → BusProc}
    (hsend : ∀ b e s, Traffic s (send b e s).1) (s : State) : FinishesItsWork s i (.next (rangeCommand send s)) := by
  unfold rangeCommand
  split
  · split
    · exact ⟨_, _, rfl, .display hi (hsend _ _ s).updateWork⟩
    · exact finishesItsWork_idle ..
  · exact finishesItsWork_idle ..

/-! ## The host stack commands -/

/-- A command that ends with what a stack procedure gave, if the procedure keeps the stack's invariant. -/
theorem finishStk_finishes {i : Instr} {s : State} {o : Option Stack} (hi : i ∈ [.stkAlloc, .stkPush, .stkDealloc])
    (ho : ∀ S, o = some S → stackInv s.params.stackMaxEntries s.stk → stackInv s.params.stackMaxEntries S) :
    FinishesItsWork s i (.next (finishStk o s)) := by
  cases o with
  | none => exact finishesItsWork_idle ..
  | some S => exact ⟨_, _, rfl, .stack hi (ho S rfl)⟩

theorem execStkAlloc_finishes (s : State) : FinishesItsWork s .stkAlloc (execStkAlloc s) := by
  unfold execStkAlloc
  split
  · exact finishesItsWork_idle ..
  · exact finishStk_finishes (by simp) fun S hS _ => stackInv_stackAlloc hS

theorem execStkPush_finishes (s : State) : FinishesItsWork s .stkPush (execStkPush s) := by
  unfold execStkPush
  split
  · rename_i halloc
    exact finishStk_finishes (by simp) fun S hS hinv => stackInv_stackPush hinv halloc hS
  · exact finishesItsWork_idle ..

theorem execStkPop_finishes (s : State) : FinishesItsWork s .stkPop (execStkPop s) := by
  unfold execStkPop
  split
  · rename_i halloc
    split
    · rename_i hpop
      exact ⟨_, _, rfl, .stkPop fun hinv => stackInv_stackPop hinv halloc hpop⟩
    · exact finishesItsWork_idle ..
  · exact finishesItsWork_idle ..

theorem execStkDealloc_finishes (s : State) : FinishesItsWork s .stkDealloc (execStkDealloc s) := by
  unfold execStkDealloc
  split
  · exact ⟨_, _, rfl, .stack (by simp) fun _ => stackInv_none _⟩
  · exact finishesItsWork_idle ..

/-! ## Every command -/

/-- Every command, in every state, answers a next state: `finish` of a state its work can leave. -/
theorem exec_finishes (i : Instr) (s : State) : FinishesItsWork s i (exec i s) := by
  cases i with
  | fbCreate => exact execFbCreate_finishes s
  | fbClear => exact execFbClear_finishes s
  | fbSetPixel v => exact execFbSetPixel_finishes v s
  | fbGetPixel => exact execFbGetPixel_finishes s
  | fbDestroy => exact execFbDestroy_finishes s
  | dispInit => exact execDispInit_finishes s
  | dispOn v => exact execDispOn_finishes v s
  | dispUpdate => exact execDispUpdate_finishes s
  | dispUpdateAll => exact execDispUpdateAll_finishes s
  | dispUpdateDiff => exact execDispUpdateDiff_finishes s
  | dispSetColRange => exact rangeCommand_finishes rfl traffic_setColRange s
  | dispSetPageRange => exact rangeCommand_finishes rfl traffic_setPageRange s
  | drawLine v => exact rasterCommand_finishes rfl _ v s
  | drawRect v => exact rasterCommand_finishes rfl _ v s
  | drawCircle v => exact rasterCommand_finishes rfl _ v s
  | drawEllipseRect v => exact rasterCommand_finishes rfl _ v s
  | drawFill v m => exact execDrawFill_finishes v m s
  | stkAlloc => exact execStkAlloc_finishes s
  | stkPush => exact execStkPush_finishes s
  | stkPop => exact execStkPop_finishes s
  | stkDealloc => exact execStkDealloc_finishes s

/-- What the next state of a command is. -/
theorem commandWork_of_exec {i : Instr} {s t : State} (h : exec i s = .next t) :
    ∃ u c, t = u.finish c ∧ CommandWork s i u c := by
  obtain ⟨u, c, hexec, hwork⟩ := exec_finishes i s
  rw [hexec] at h
  cases h
  exact ⟨u, c, rfl, hwork⟩

/-! ## The invariants over a command -/

theorem fbOk_fbCreate {s : State} {w h : Nat} (hw : 1 ≤ w ∧ w ≤ maxDim) (hh : 1 ≤ h ∧ h ≤ maxDim)
    (hfits : w * ((h + 7) / 8) ≤ s.params.fbMaxTiles) (epoch : Nat) :
    (((s.setFb ⟨true, w, h, (h + 7) / 8, w * ((h + 7) / 8), 0⟩).setDirtyRam (Ram.zeroed 1)).setTiles
      (Ram.unspecified 8 epoch)).drew.FbOk := by
  obtain ⟨hw, hw'⟩ := hw
  obtain ⟨hh, hh'⟩ := hh
  refine ⟨⟨fun hfree => absurd hfree (by simp), fun _ => ?_⟩, Ram.unspecified_wf _, Ram.zeroed_wf⟩
  exact ⟨hw, hw', hh, hh', rfl, rfl, hfits, (dirtyTotal_eq_zero fun _ => rfl).symm⟩

theorem State.FbOk.fbClear {s : State} (h : s.FbOk) (halloc : s.fb.alloc = true) :
    (((s.setTiles (Ram.zeroed 8)).setDirtyRam (Ram.onesBelow s.fb.ntiles)).setCount s.fb.ntiles).FbOk := by
  obtain ⟨hfb, -, hdirty⟩ := h
  have hzeroed : (s.setTiles (Ram.zeroed 8)).FbOk := ⟨hfb, Ram.zeroed_wf, hdirty⟩
  refine hzeroed.setDirtyRam_setCount (Ram.onesBelow_wf _) (fun hfree => absurd halloc (by simp [← hfree])) fun _ => ?_
  refine (dirtyTotal_eq_ntiles (s := (s.setTiles (Ram.zeroed 8)).setDirtyRam _) fun i hi => ?_).symm
  have hlt : i < s.fb.ntiles := hi
  simp [hlt]

theorem fbOk_fbDestroy (s : State) (epoch : Nat) :
    (((s.setFb Fb.none).setTiles (Ram.unspecified 8 epoch)).setDirtyRam (Ram.unspecified 1 epoch)).drew.FbOk :=
  ⟨⟨fun _ => rfl, fun halloc => absurd halloc (by simp [Fb.none])⟩, Ram.unspecified_wf _, Ram.unspecified_wf _⟩

/-- What the work of a command leaves satisfies the invariants if the state it started in does. -/
theorem CommandWork.inv {s t : State} {i : Instr} {c : Status} (hwork : CommandWork s i t c) (h : s.Inv) : t.Inv := by
  rw [inv_iff] at h ⊢
  obtain ⟨hparams, hfb, hstk, hfstk, hbus⟩ := h
  cases hwork with
  | idle => exact ⟨hparams, hfb, hstk, hfstk, hbus⟩
  | fbCreate hw hh hfits => exact ⟨hparams, fbOk_fbCreate hw hh hfits _, hstk, hfstk, hbus⟩
  | fbClear halloc => exact ⟨hparams, hfb.fbClear halloc, hstk, hfstk, hbus⟩
  | fbDestroy => exact ⟨hparams, fbOk_fbDestroy s _, hstk, hfstk, hbus⟩
  | fbGetPixel => exact ⟨hparams, hfb.congr rfl rfl rfl rfl, hstk, hfstk, hbus⟩
  | pixels _ ht hkeep =>
    have hok := ht.2 hfb
    obtain ⟨⟨_, _, _, _, rfl⟩, -⟩ := ht
    exact ⟨hparams, hok, hstk, hkeep.trans hfstk, hbus⟩
  | fill ht =>
    have hok := ht.2 hfb
    obtain ⟨⟨_, _, _, _, rfl⟩, -⟩ := ht
    exact ⟨hparams, hok.congr rfl rfl rfl rfl, hstk, rfl, hbus⟩
  | dispInit ht =>
    obtain ⟨_, _, rfl, -⟩ := ht
    exact ⟨hparams, hfb.congr rfl rfl rfl rfl, hstk, hfstk, hbus⟩
  | display _ ht =>
    have hok := ht.fbOk hfb
    obtain ⟨_, _, ⟨_, _, rfl, -⟩, -⟩ := ht
    exact ⟨hparams, hok, hstk, hfstk, hbus⟩
  | stack _ hS => exact ⟨hparams, hfb.congr rfl rfl rfl rfl, hS hstk, hfstk, hbus⟩
  | stkPop hS => exact ⟨hparams, hfb.congr rfl rfl rfl rfl, hS hstk, hfstk, hbus⟩

/-- Every command keeps the invariants (10_state.md R43). -/
theorem exec_inv {i : Instr} {s t : State} (h : s.Inv) (hexec : exec i s = .next t) : t.Inv := by
  obtain ⟨u, c, rfl, hwork⟩ := commandWork_of_exec hexec
  exact (hwork.inv h).congr rfl

end Sys2Proof.Machine
end

section
/-! SUPPORT. What a host action can do, and what a register holds (10_state.md R20-R29, 20_memory.md R63-R65,
60_exceptions.md R274). -/

namespace Sys2Proof.Machine

open Sys2Proof

/-! ## Whose step it is -/

/-- The host's next action is the step when BUSY = 0 or it is early (60_exceptions.md R274). -/
theorem step_of_pending {s : State} {e : HostEvent} {rest : List HostEvent} (hpending : s.pending = e :: rest)
    (hturn : s.busy = false ∨ e.early = true) : step s = hostStep e { s with pending := rest } := by
  simp only [step, hostTurn_eq_some.2 ⟨rest, hpending, hturn, rfl⟩]

/-- The engine's command is the step when BUSY = 1 and no early action stands first. -/
theorem step_of_busy {s : State} (hbusy : s.busy = true) (hpending : ∀ e rest, s.pending = e :: rest → e.early = false) :
    step s = runCommand s := by
  have hturn : s.hostTurn = none := by
    cases h : s.hostTurn with
    | none => rfl
    | some p =>
      obtain ⟨rest, hp, hb | he, -⟩ := hostTurn_eq_some.1 h
      · simp [hbusy] at hb
      · simp [hpending _ _ hp] at he
  simp only [step, hturn, hbusy, if_true]

theorem runCommand_of_decode {s : State} {i : Instr} (h : decode s.cmd = .ok i) : runCommand s = exec i s := by
  simp only [runCommand, h]

/-! ## What a host action leaves alone -/

theorem hostRead_frame (s : State) (off : Fin 0x30000) :
    ∃ reads draws, s.hostRead off = { s with hostReadsRev := reads, draws := draws } := by
  unfold State.hostRead
  split
  · exact ⟨_, _, rfl⟩
  · exact ⟨_, s.draws, rfl⟩

/-- A write of ARG`n` changes nothing but the ARG registers. -/
theorem setArg_frame (s : State) (n : Fin 4) (v : Half) :
    s.setArg n v = { s with
      arg0 := (s.setArg n v).arg0, arg1 := (s.setArg n v).arg1, arg2 := (s.setArg n v).arg2
      arg3 := (s.setArg n v).arg3 } := by
  fin_cases n <;> rfl

/-- `t` is `s` but for the registers the host can write: CMD with BUSY, CFG and ARG0..ARG3 (20_memory.md R63). -/
def HostWritten (s t : State) : Prop :=
  ∃ cmd busy cfg a₀ a₁ a₂ a₃,
    t = { s with cmd := cmd, busy := busy, cfg := cfg, arg0 := a₀, arg1 := a₁, arg2 := a₂, arg3 := a₃ }

theorem HostWritten.refl (s : State) : HostWritten s s := ⟨s.cmd, s.busy, s.cfg, s.arg0, s.arg1, s.arg2, s.arg3, rfl⟩

theorem hostWritten_setArg (s : State) (n : Fin 4) (v : Half) : HostWritten s (s.setArg n v) :=
  ⟨s.cmd, s.busy, s.cfg, _, _, _, _, setArg_frame s n v⟩

theorem hostWritten_writeReg (s : State) (r : Reg) (v : Word) : HostWritten s (s.writeReg r v) := by
  cases r with
  | cmd => exact ⟨v, true, s.cfg, s.arg0, s.arg1, s.arg2, s.arg3, rfl⟩
  | cfg => exact ⟨s.cmd, s.busy, _, s.arg0, s.arg1, s.arg2, s.arg3, rfl⟩
  | arg0 => exact hostWritten_setArg s 0 _
  | arg1 => exact hostWritten_setArg s 1 _
  | arg2 => exact hostWritten_setArg s 2 _
  | arg3 => exact hostWritten_setArg s 3 _
  | status | result | fbGeom | fbPages | fbDirtyCount | dispCfg | stkCap | stkCount => exact .refl s

theorem hostWritten_hostWrite (s : State) (off : Fin 0x30000) (v : Word) : HostWritten s (s.hostWrite off v) := by
  unfold State.hostWrite State.writeWord
  split
  · exact .refl s
  · split
    · exact hostWritten_writeReg s _ v
    all_goals exact .refl s

theorem pollStatus_frame (s : State) (k : Nat) :
    ∃ pending reads, s.pollStatus k = { s with pending := pending, hostReadsRev := reads } := by
  rw [pollStatus_eq]
  split
  · exact ⟨_, _, rfl⟩
  · exact ⟨s.pending, _, rfl⟩

/-! ## The registers -/

theorem readWord_regOffset (s : State) (r : Reg) : s.readWord (regOffset r) = s.readReg r := by
  rw [State.readWord, regionOf_regOffset]

theorem writeWord_regOffset (s : State) (r : Reg) (v : Word) : s.writeWord (regOffset r) v = s.writeReg r v := by
  rw [State.writeWord, regionOf_regOffset]

theorem wordAligned_regOffset (r : Reg) : wordAligned (regOffset r) 4 = true := by cases r <;> decide

/-- A host write to a register while BUSY = 0 (20_memory.md R63). -/
theorem step_writeReg {s : State} {r : Reg} {v : Word} {early : Bool} {rest : List HostEvent} (hbusy : s.busy = false)
    (hpending : s.pending = ⟨.write (regOffset r) 4 v, early⟩ :: rest) :
    step s = .next (({ s with pending := rest } : State).writeReg r v) := by
  rw [step_of_pending hpending (.inl hbusy)]
  simp only [hostStep, wordAligned_regOffset, if_true, State.hostWrite, hbusy, Bool.false_eq_true, if_false,
    writeWord_regOffset]

/-- A host write while BUSY = 1 is ignored (60_exceptions.md R274). -/
theorem step_write_busy {s : State} {off : Fin 0x30000} {v : Word} {rest : List HostEvent} (hbusy : s.busy = true)
    (haligned : wordAligned off 4 = true) (hpending : s.pending = ⟨.write off 4 v, true⟩ :: rest) :
    step s = .next { s with pending := rest } := by
  rw [step_of_pending hpending (.inr rfl)]
  simp only [hostStep, haligned, if_true, State.hostWrite, hbusy]

/-- The register ARG`n`. -/
def argReg : Fin 4 → Reg
  | 0 => .arg0
  | 1 => .arg1
  | 2 => .arg2
  | 3 => .arg3

theorem regOffset_argReg (n : Fin 4) : (regOffset (argReg n)).val = 0x010 + 4 * n.val := by
  revert n; decide

theorem writeReg_argReg (s : State) (n : Fin 4) (v : Word) :
    s.writeReg (argReg n) v = s.setArg n (v.extractLsb' 0 16) := by
  fin_cases n <;> rfl

theorem readReg_argReg (s : State) (n : Fin 4) : s.readReg (argReg n) = (s.arg n).zeroExtend 32 := by
  fin_cases n <;> rfl

theorem arg_setArg (s : State) (n m : Fin 4) (v : Half) : (s.setArg n v).arg m = if m = n then v else s.arg m := by
  fin_cases n <;> fin_cases m <;> rfl

/-- Bits 15:0 of a word, zero-extended (10_state.md R25). -/
theorem zeroExtend_extractLsb'_half (v : Word) : (v.extractLsb' 0 16).zeroExtend 32 = v &&& 0x0000FFFF#32 := by
  apply BitVec.eq_of_toNat_eq
  have hmask : v.toNat &&& (2 ^ 16 - 1) = v.toNat % 2 ^ 16 := Nat.and_two_pow_sub_one_eq_mod _ 16
  have hfits : v.toNat % 65536 % 4294967296 = v.toNat % 65536 := by omega
  simpa [hfits] using hmask.symm

/-! ## The layout of CFG and DISP_CFG -/

/-- The bits of a configuration, each where 10_state.md R24 puts it. -/
theorem bits_getLsbD (c : DispConf) (k : Nat) :
    c.bits.getLsbD k =
      if k < 7 then c.addr.getLsbD k
      else (k == 8 && c.geom || k == 9 && c.cpsrc || k == 10 && c.fliph || k == 11 && c.flipv) := by
  by_cases hk : k < 12
  · show BitVec.getLsbD (w := 1 + (1 + (1 + (1 + (1 + 7))))) (_ ++ (_ ++ (_ ++ (_ ++ (_ ++ _))))) k = _
    simp only [BitVec.getLsbD_append]
    interval_cases k <;> simp
  · rw [BitVec.getLsbD_of_ge _ _ (by omega), if_neg (by omega)]
    simp [show k ≠ 8 by omega, show k ≠ 9 by omega, show k ≠ 10 by omega, show k ≠ 11 by omega]

/-- A configuration in bits 11:0 with bit 31 given: what CFG and DISP_CFG read (10_state.md R24, R28). -/
def confWord (b : Bool) (c : DispConf) : Word := BitVec.ofBool b ++ (0#19 ++ c.bits)

theorem readReg_dispCfg (s : State) : s.readReg .dispCfg = confWord s.disp.valid s.disp.conf := rfl

theorem word_eq_confWord (c : DispConf) : c.word = confWord false c := by
  apply BitVec.eq_of_toNat_eq
  show BitVec.toNat (w := 20 + 12) (_ ++ _) = BitVec.toNat (w := 1 + (19 + 12)) (_ ++ (_ ++ _))
  simp only [BitVec.toNat_append]
  simp

theorem confWord_getLsbD (b : Bool) (c : DispConf) {k : Nat} (hk : k < 32) :
    (confWord b c).getLsbD k = if k = 31 then b else c.bits.getLsbD k := by
  show BitVec.getLsbD (w := 1 + (19 + 12)) (_ ++ (_ ++ _)) k = _
  simp only [BitVec.getLsbD_append]
  by_cases h31 : k = 31
  · simp [h31]
  · rw [if_pos (show k < 19 + 12 by omega), if_neg h31]
    simp only [BitVec.getLsbD_zero, ite_eq_left_iff]
    exact fun h12 => (BitVec.getLsbD_of_ge _ _ (by omega)).symm

theorem confWord_addr (b : Bool) (c : DispConf) : (confWord b c).extractLsb' 0 7 = c.addr := by
  apply BitVec.eq_of_getLsbD_eq
  intro k hk
  rw [BitVec.getLsbD_extractLsb', Nat.zero_add, confWord_getLsbD b c (by omega), if_neg (by omega), bits_getLsbD,
    if_pos hk]
  simp [hk]

theorem confWord_reserved (b : Bool) (c : DispConf) : (confWord b c).extractLsb' 12 19 = 0 := by
  apply BitVec.eq_of_getLsbD_eq
  intro k hk
  rw [BitVec.getLsbD_extractLsb', confWord_getLsbD b c (by omega), if_neg (by omega),
    BitVec.getLsbD_of_ge c.bits _ (by omega)]
  simp

/-- A configuration written by the host reads bits 11:8 and 6:0 of the value written (10_state.md R24). -/
theorem word_ofWord (v : Word) : (DispConf.ofWord v).word = v &&& 0x00000F7F#32 := by
  apply BitVec.eq_of_getLsbD_eq
  intro k hk
  rw [word_eq_confWord, confWord_getLsbD _ _ hk, bits_getLsbD]
  interval_cases k <;> simp [DispConf.ofWord]

end Sys2Proof.Machine
end

section
/-! SUPPORT. The statements about the state as a whole (10_state.md R20-R43, 70_reset_and_hazards.md R291). -/

namespace Sys2Proof.Machine

open Sys2Proof

/-! ## The invariants -/

/-- The reset input gives a state that satisfies the invariants (70_reset_and_hazards.md R291). -/
theorem applyReset_inv {s : State} (h : s.params.wf) : s.applyReset.Inv :=
  inv_of_reset_values h rfl rfl rfl rfl (Ram.unspecified_wf _) (Ram.unspecified_wf _)

/-- Every host action that is not refused keeps the invariants. -/
theorem hostStep_inv {e : HostEvent} {s t : State} (h : s.Inv) (hstep : hostStep e s = .next t) : t.Inv := by
  rcases hostStep_next hstep with ⟨off, -, -, rfl⟩ | ⟨off, v, -, -, rfl⟩ | ⟨k, -, rfl⟩ | ⟨-, -, rfl⟩
  · obtain ⟨_, _, hread⟩ := hostRead_frame s off
    exact h.congr (by rw [hread]; rfl)
  · obtain ⟨_, _, _, _, _, _, _, hwrite⟩ := hostWritten_hostWrite s off v
    exact h.congr (by rw [hwrite]; rfl)
  · obtain ⟨_, _, hpoll⟩ := pollStatus_frame s k
    exact h.congr (by rw [hpoll]; rfl)
  · exact applyReset_inv h.1

/-- Settles O17: a step is a host action, a command or nothing, and each keeps the invariants. -/
theorem everyStepKeepsTheInvariants : Obligations.EveryStepKeepsTheInvariants := by
  unfold Obligations.EveryStepKeepsTheInvariants
  intro s t h hstep
  rcases step_cases s with ⟨e, u, hturn, heq⟩ | ⟨-, -, heq⟩ | ⟨-, -, heq⟩ <;> rw [heq] at hstep
  · obtain ⟨rest, -, -, rfl⟩ := hostTurn_eq_some.1 hturn
    have hu : ({ s with pending := rest } : State).Inv := h.congr rfl
    exact hostStep_inv hu hstep
  · rcases runCommand_cases s with ⟨i, -, hrun⟩ | ⟨_, -, hrun⟩ <;> rw [hrun] at hstep
    · exact exec_inv h hstep
    · cases hstep
      exact h.congr rfl
  · cases hstep
    exact h

/-- Settles O16: nothing is allocated and no event has been sent. -/
theorem invariantsHoldAtReset : Obligations.InvariantsHoldAtReset := by
  unfold Obligations.InvariantsHoldAtReset
  obtain ⟨htiles, hdirty⟩ := reset_rams_wf
  exact ⟨inv_of_reset_values Config.params_wf rfl rfl rfl rfl htiles hdirty, rfl, fun _ => rfl, fun _ => rfl⟩

/-! ## RESULT, DISP and the bus -/

/-- RESULT is written by FB_GET_PIXEL and STK_POP only, which then finish OK (10_state.md R23). -/
theorem CommandWork.result {s t : State} {i : Instr} {c : Status} (h : CommandWork s i t c) :
    t.result = s.result ∨ ((i = .fbGetPixel ∨ i = .stkPop) ∧ c = .ok) := by
  cases h with
  | fbGetPixel => exact .inr ⟨.inl rfl, rfl⟩
  | stkPop => exact .inr ⟨.inr rfl, rfl⟩
  | pixels _ ht _ | fill ht =>
    obtain ⟨⟨_, _, _, _, rfl⟩, -⟩ := ht
    exact .inl rfl
  | dispInit ht =>
    obtain ⟨_, _, rfl, -⟩ := ht
    exact .inl rfl
  | display _ ht =>
    obtain ⟨_, _, ⟨_, _, rfl, -⟩, -⟩ := ht
    exact .inl rfl
  | idle | fbCreate | fbClear | fbDestroy | stack => exact .inl rfl

/-- Settles O20: by the work a command can do, and the registers a host write can reach. -/
theorem onlyGetPixelAndPopWriteResult : Obligations.OnlyGetPixelAndPopWriteResult := by
  unfold Obligations.OnlyGetPixelAndPopWriteResult
  refine ⟨fun i s t hexec hne => ?_, fun s t off v early rest hturn hpending hstep => ?_, rfl⟩
  · obtain ⟨u, c, rfl, hwork⟩ := commandWork_of_exec hexec
    exact hwork.result.resolve_left hne
  · rw [step_of_pending hpending hturn] at hstep
    rcases hostStep_next hstep with ⟨_, h, -⟩ | ⟨off, v, -, -, rfl⟩ | ⟨_, h, -⟩ | ⟨h, -⟩
    · cases h
    · obtain ⟨_, _, _, _, _, _, _, hwrite⟩ := hostWritten_hostWrite { s with pending := rest } off v
      rw [hwrite]
    · cases h
    · cases h

/-- No command but DISP_INIT writes DISP (10_state.md R30). -/
theorem CommandWork.disp {s t : State} {i : Instr} {c : Status} (h : CommandWork s i t c) (hi : i ≠ .dispInit) :
    t.disp = s.disp := by
  cases h with
  | pixels _ ht _ | fill ht =>
    obtain ⟨⟨_, _, _, _, rfl⟩, -⟩ := ht
    rfl
  | dispInit ht => exact absurd rfl hi
  | display _ ht =>
    obtain ⟨_, _, ⟨_, _, rfl, -⟩, -⟩ := ht
    rfl
  | idle | fbCreate | fbClear | fbDestroy | fbGetPixel | stack | stkPop => rfl

/-- Settles O21: DISP_INIT latches CFG and then only sends, and the work of the other commands leaves DISP alone. -/
theorem onlyDispInitWritesTheConfiguration : Obligations.OnlyDispInitWritesTheConfiguration := by
  unfold Obligations.OnlyDispInitWritesTheConfiguration
  intro i s t hexec
  refine ⟨?_, fun hi => ?_⟩
  · rintro rfl
    cases hexec
    obtain ⟨_, _, ht, -⟩ := traffic_initAll ⟨true, s.cfg⟩ (s.setDisp ⟨true, s.cfg⟩)
    simp only [finishBus, ht]
    rfl
  · obtain ⟨u, c, rfl, hwork⟩ := commandWork_of_exec hexec
    exact hwork.disp hi

/-- The events a command appends to the log, by the configuration it leaves in DISP (20_memory.md R74, R77). -/
theorem CommandWork.bus {s t : State} {i : Instr} {c : Status} (h : CommandWork s i t c) :
    t.busMode = s.busMode ∧
      ∃ evs, t.busLog = s.busLog ++ evs ∧ HeldAndReleased { s with disp := t.disp } evs := by
  have hnone : s.busLog = s.busLog ++ [] := (List.append_nil _).symm
  cases h with
  | pixels _ ht _ | fill ht =>
    obtain ⟨⟨_, _, _, _, rfl⟩, -⟩ := ht
    exact ⟨rfl, [], hnone, heldAndReleased_nil _⟩
  | dispInit ht =>
    obtain ⟨evs, _, rfl, hevs⟩ := ht
    exact ⟨rfl, evs, by simp, hevs⟩
  | display _ ht =>
    obtain ⟨_, _, ⟨evs, _, rfl, hevs⟩, -⟩ := ht
    exact ⟨rfl, evs, by simp, hevs⟩
  | idle | fbCreate | fbClear | fbDestroy | fbGetPixel | stack | stkPop =>
    exact ⟨rfl, [], hnone, heldAndReleased_nil _⟩

/-- Settles O23: every command's work is bus traffic that is held and released, or leaves the bus alone. -/
theorem sequencesAreHeldAndReleased : Obligations.SequencesAreHeldAndReleased := by
  unfold Obligations.SequencesAreHeldAndReleased
  intro i s t hexec
  obtain ⟨u, c, rfl, hwork⟩ := commandWork_of_exec hexec
  obtain ⟨hmode, evs, hlog, hwrites, hlast⟩ := hwork.bus
  exact ⟨hmode, fun hs => ⟨evs, hlog, hwrites, hlast hs⟩⟩

/-! ## The host's registers -/

/-- Settles O6: the accepted write is the host's step, and the next is the engine's. -/
theorem commandWriteStartsTheCommand : Obligations.CommandWriteStartsTheCommand := by
  unfold Obligations.CommandWriteStartsTheCommand
  refine ⟨fun s w early rest hbusy hpending => ⟨step_writeReg hbusy hpending, fun i hdecode hrest => ?_⟩,
    fun s w rest hbusy hpending => step_write_busy hbusy (wordAligned_regOffset .cmd) hpending,
    fun s => readWord_regOffset s .cmd, rfl, rfl, .reservedOpcode, by decide⟩
  rw [step_of_busy rfl hrest, runCommand_of_decode hdecode]

/-- Settles O12: the write stores `DispConf.ofWord`, whose word is the value masked. -/
theorem configWriteStoresItsFields : Obligations.ConfigWriteStoresItsFields := by
  unfold Obligations.ConfigWriteStoresItsFields
  intro s v early rest hbusy hpending
  have hstep := step_writeReg hbusy hpending
  refine ⟨hstep, fun t ht => ?_⟩
  rw [hstep] at ht
  cases ht
  rw [readWord_regOffset]
  exact word_ofWord v

/-- Settles O13: the offset is that of ARG`n`, and the write is `State.setArg`. -/
theorem argumentWriteStoresSixteenBits : Obligations.ArgumentWriteStoresSixteenBits := by
  unfold Obligations.ArgumentWriteStoresSixteenBits
  intro s n off v early rest hbusy hoff hpending
  obtain rfl : off = regOffset (argReg n) := Fin.ext (hoff.trans (regOffset_argReg n).symm)
  have hstep := step_writeReg hbusy hpending
  rw [writeReg_argReg] at hstep
  refine ⟨_, hstep, ?_, fun m hm => ?_, ?_, setArg_frame _ n _⟩
  · rw [arg_setArg, if_pos rfl]
  · rw [arg_setArg, if_neg hm]
    rfl
  · rw [readWord_regOffset, readReg_argReg, arg_setArg, if_pos rfl, zeroExtend_extractLsb'_half]

/-- STATUS reads BUSY in bit 31 and the number of CODE below it (10_state.md R22, 60_exceptions.md R260). -/
theorem statusWord_eq (s : State) :
    s.statusWord = (if s.busy then 0x80000000#32 else 0#32) ||| (statusByte s.code).zeroExtend 32 := by
  unfold State.statusWord
  cases s.busy <;> cases s.code <;> rfl

/-- The bounds the invariants put on the numbers the registers show, and the zeros while nothing is allocated
(10_state.md R43). -/
theorem State.Inv.register_bounds {s : State} (h : s.Inv) :
    s.fb.columns < 2 ^ 16 ∧ s.fb.height < 2 ^ 16 ∧ s.fb.pages < 2 ^ 16 ∧ s.fb.count < 2 ^ 32 ∧ s.stk.cap < 2 ^ 32 ∧
      s.stk.entries.length < 2 ^ 32 := by
  obtain ⟨⟨-, -, hmax, -, hstkMax, -⟩, ⟨hfree, hsome⟩, ⟨hcount, hcap, -⟩, -⟩ := h
  have hstk : s.stk.entries.length ≤ s.stk.cap := hcount
  refine and_assoc.1 (and_assoc.1 (and_assoc.1 ⟨?_, by omega, by omega⟩))
  cases halloc : s.fb.alloc with
  | false => simp [hfree halloc, Fb.none]
  | true =>
    obtain ⟨-, hcolumns, -, hheight, hpages, -, hntiles, hdirty⟩ := hsome halloc
    have hle : s.dirtyTotal ≤ s.fb.ntiles := List.countP_le_length.trans_eq List.length_range
    simp only [maxDim] at hcolumns hheight
    omega

theorem State.Inv.fb_eq_none {s : State} (h : s.Inv) (hfree : s.fb.alloc = false) : s.fb = Fb.none := by
  obtain ⟨-, ⟨hnone, -⟩, -⟩ := h
  exact hnone hfree

theorem State.Inv.stk_eq_none {s : State} (h : s.Inv) (hfree : s.stk.alloc = false) : s.stk = Stack.none := by
  obtain ⟨-, -, ⟨-, -, -, hnone⟩, -⟩ := h
  exact hnone hfree

/-- FB_GEOM holds the columns in its low and the height in its high half, 0 without a framebuffer (10_state.md R26). -/
theorem fbGeom_reads {s : State} (h : s.Inv) :
    ((s.readReg .fbGeom).extractLsb' 0 16).toNat = s.fb.columns ∧
    ((s.readReg .fbGeom).extractLsb' 16 16).toNat = s.fb.height := by
  obtain ⟨hcolumns, hheight, -⟩ := h.register_bounds
  cases halloc : s.fb.alloc with
  | false => simp [State.readReg, h.fb_eq_none halloc, Fb.none]
  | true =>
    have hreg : s.readReg .fbGeom = BitVec.ofNat 16 s.fb.height ++ BitVec.ofNat 16 s.fb.columns := by
      simp only [State.readReg, halloc, if_true]
    rw [hreg]
    refine ⟨?_, ?_⟩
    · rw [BitVec.extractLsb'_append_eq_right, BitVec.toNat_ofNat, Nat.mod_eq_of_lt hcolumns]
    · rw [BitVec.extractLsb'_append_eq_left, BitVec.toNat_ofNat, Nat.mod_eq_of_lt hheight]

/-- FB_PAGES of an allocated framebuffer in two halves. -/
theorem alloc_bit_append (p : Half) : (1#1 ++ (0#15 ++ p) : Word) = 0x8000#16 ++ p := by
  apply BitVec.eq_of_toNat_eq
  show BitVec.toNat (w := 1 + (15 + 16)) (_ ++ (_ ++ _)) = _
  simp only [BitVec.toNat_append]
  simp

/-- FB_PAGES holds the pages in its low half and ALLOC in bit 31, 0 without a framebuffer (10_state.md R27). -/
theorem fbPages_reads {s : State} (h : s.Inv) :
    ((s.readReg .fbPages).extractLsb' 0 16).toNat = s.fb.pages ∧ (s.readReg .fbPages).extractLsb' 16 15 = 0 ∧
    (s.readReg .fbPages).getLsbD 31 = s.fb.alloc := by
  obtain ⟨-, -, hpages, -⟩ := h.register_bounds
  cases halloc : s.fb.alloc with
  | false => simp [State.readReg, h.fb_eq_none halloc, Fb.none]
  | true =>
    have hreg : s.readReg .fbPages = 0x8000#16 ++ BitVec.ofNat 16 s.fb.pages := by
      simp only [State.readReg, halloc, if_true]
      exact alloc_bit_append _
    rw [hreg]
    refine ⟨?_, ?_, ?_⟩
    · rw [BitVec.extractLsb'_append_eq_right, BitVec.toNat_ofNat, Nat.mod_eq_of_lt hpages]
    · rw [BitVec.extractLsb'_append_eq_of_le (by decide)]
      decide
    · show BitVec.getLsbD (w := 16 + 16) (_ ++ _) 31 = true
      rw [BitVec.getLsbD_append]
      rfl

/-- FB_DIRTY_COUNT holds FB.count (10_state.md R27). -/
theorem fbDirtyCount_reads {s : State} (h : s.Inv) : (s.readReg .fbDirtyCount).toNat = s.fb.count := by
  obtain ⟨-, -, -, hcount, -⟩ := h.register_bounds
  rw [State.readReg, BitVec.toNat_ofNat, Nat.mod_eq_of_lt hcount]

/-- STK_CAP and STK_COUNT hold the stack's capacity and count, 0 without a stack (10_state.md R29). -/
theorem stk_reads {s : State} (h : s.Inv) :
    (s.readReg .stkCap).toNat = s.stk.cap ∧ (s.readReg .stkCount).toNat = s.stk.entries.length := by
  obtain ⟨-, -, -, -, hcap, hcount⟩ := h.register_bounds
  cases halloc : s.stk.alloc with
  | false => simp [State.readReg, h.stk_eq_none halloc, Stack.none]
  | true =>
    simp only [State.readReg, halloc, if_true, BitVec.toNat_ofNat]
    exact ⟨Nat.mod_eq_of_lt hcap, Nat.mod_eq_of_lt hcount⟩

/-- The layout CFG and DISP_CFG share, field by field (10_state.md R24, R28). -/
theorem confWord_fields (b : Bool) (c : DispConf) :
    (confWord b c).extractLsb' 0 7 = c.addr ∧ (confWord b c).getLsbD 7 = false ∧
    (confWord b c).getLsbD 8 = c.geom ∧ (confWord b c).getLsbD 9 = c.cpsrc ∧
    (confWord b c).getLsbD 10 = c.fliph ∧ (confWord b c).getLsbD 11 = c.flipv ∧
    (confWord b c).extractLsb' 12 19 = 0 ∧ (confWord b c).getLsbD 31 = b := by
  refine ⟨confWord_addr b c, ?_, ?_, ?_, ?_, ?_, confWord_reserved b c, ?_⟩ <;>
    rw [confWord_getLsbD b c (by decide), bits_getLsbD] <;> simp

/-- Settles O58: register by register; the numbers fit by the bounds of the invariants. -/
theorem registersReadTheState : Obligations.RegistersReadTheState := by
  unfold Obligations.RegistersReadTheState
  refine ⟨fun s => ⟨readWord_regOffset s .cmd, ?_, readWord_regOffset s .result, readWord_regOffset s .arg0,
    readWord_regOffset s .arg1, readWord_regOffset s .arg2, readWord_regOffset s .arg3⟩, ?_, fun s h => ?_⟩
  · refine (readWord_regOffset s .status).trans ((statusWord_eq s).trans ?_)
    cases s.code <;> rfl
  · rintro s off c (⟨rfl, rfl⟩ | ⟨rfl, rfl⟩)
    · have hword : s.readWord 0x00C = confWord false s.cfg :=
        (readWord_regOffset s .cfg).trans (word_eq_confWord s.cfg)
      simp only [hword]
      exact confWord_fields false s.cfg
    · have hword : s.readWord 0x02C = confWord s.disp.valid s.disp.conf :=
        (readWord_regOffset s .dispCfg).trans (readReg_dispCfg s)
      simp only [hword]
      exact confWord_fields s.disp.valid s.disp.conf
  · rw [show s.readWord 0x020 = _ from readWord_regOffset s .fbGeom,
      show s.readWord 0x024 = _ from readWord_regOffset s .fbPages,
      show s.readWord 0x028 = _ from readWord_regOffset s .fbDirtyCount,
      show s.readWord 0x030 = _ from readWord_regOffset s .stkCap,
      show s.readWord 0x034 = _ from readWord_regOffset s .stkCount]
    obtain ⟨hcolumns, hheight⟩ := fbGeom_reads h
    obtain ⟨hpages, hzero, halloc⟩ := fbPages_reads h
    obtain ⟨hcap, hcount⟩ := stk_reads h
    exact ⟨hcolumns, hheight, hpages, hzero, halloc, fbDirtyCount_reads h, hcap, hcount,
      fun hfree => by simp [State.readReg, hfree], fun hfree => by simp [State.readReg, hfree]⟩

end Sys2Proof.Machine
end

section
/-! SUPPORT. Where an offset of the host space lies, and what the register layouts leave at 0 (10_state.md R20-R28,
20_memory.md R60-R65). -/

namespace Sys2Proof.Machine

open Sys2Proof

/-! ## Regions -/

/-- An offset lies in a register's region exactly when it is that register's offset (20_memory.md R61). -/
theorem regionOf_eq_reg_iff {off : Fin 0x30000} {r : Reg} : regionOf off = .reg r ↔ off = regOffset r := by
  constructor
  · intro h
    unfold regionOf at h
    split at h
    · split at h
      · rename_i r' hfind
        cases h
        have hoff := List.find?_some hfind
        exact (beq_iff_eq.1 hoff).symm
      · cases h
    · split at h <;> cases h
  · rintro rfl
    exact regionOf_regOffset r

/-- Between the last register and the TILE window nothing is mapped (20_memory.md R61). -/
theorem regionOf_eq_unmapped {off : Fin 0x30000} (hlow : 0x38 ≤ off.val) (hhigh : off.val < 0x10000) :
    regionOf off = .unmapped := by
  have hbelow : ∀ r, (regOffset r).val < 0x38 := by
    intro r
    cases r <;> decide
  have hfind : allRegs.find? (fun r => regOffset r == off) = none := by
    refine List.find?_eq_none.2 fun r _ hr => ?_
    obtain rfl : regOffset r = off := beq_iff_eq.1 hr
    exact absurd (hbelow r) (by omega)
  simp only [regionOf, hhigh, if_true, hfind]

/-! ## Accesses -/

theorem wordAligned_eq_false {off : Fin 0x30000} {width : Nat} (h : width ≠ 4 ∨ off.val % 4 ≠ 0) :
    wordAligned off width = false := by
  rcases h with h | h <;> simp [wordAligned, h]

theorem wordAligned_of_mod {off : Fin 0x30000} (h : off.val % 4 = 0) : wordAligned off 4 = true := by
  simp [wordAligned, h]

/-- A host read while BUSY = 0 records the word and does nothing else (20_memory.md R65). -/
theorem hostRead_idle {s : State} (hbusy : s.busy = false) (off : Fin 0x30000) :
    s.hostRead off = s.recordRead off (s.readWord off) := by
  simp only [State.hostRead, hbusy, Bool.false_and, Bool.false_eq_true, if_false]

/-- A host write has an effect at CMD, CFG and ARG0..ARG3 only (20_memory.md R63). -/
theorem writeWord_eq_self (s : State) {off : Fin 0x30000} (v : Word)
    (hoff : off.val ∉ [0x000, 0x00C, 0x010, 0x014, 0x018, 0x01C]) : s.writeWord off v = s := by
  unfold State.writeWord
  split
  · rename_i r hregion
    obtain rfl := regionOf_eq_reg_iff.1 hregion
    cases r with
    | cmd | cfg | arg0 | arg1 | arg2 | arg3 => exact absurd (by decide) hoff
    | status | result | fbGeom | fbPages | fbDirtyCount | dispCfg | stkCap | stkCount => rfl
  all_goals rfl

theorem readWord_unmapped (s : State) {off : Fin 0x30000} (hlow : 0x38 ≤ off.val) (hhigh : off.val < 0x10000) :
    s.readWord off = 0 := by
  simp only [State.readWord, regionOf_eq_unmapped hlow hhigh]

/-! ## The windows -/

theorem inWindow_iff (s : State) (i : Nat) : s.inWindow i = true ↔ s.fb.alloc = true ∧ i < s.fb.ntiles := by
  simp [State.inWindow]

/-- `Dirty(i)` as a bit is the dirty RAM's cell. -/
theorem ofBool_isDirty (s : State) (i : Nat) : BitVec.ofBool (s.isDirty i) = s.dirty.read i := by
  unfold State.isDirty
  generalize s.dirty.read i = b
  revert b
  decide

theorem readWord_tileOffset (s : State) (i : Fin 16384) :
    s.readWord (tileOffset i) = if s.inWindow i.val then (s.tiles.read i.val).zeroExtend 32 else 0 := by
  rw [State.readWord, regionOf_tileOffset]
  rfl

theorem readWord_dirtyOffset (s : State) (i : Fin 16384) :
    s.readWord (dirtyOffset i) = if s.inWindow i.val then (s.dirty.read i.val).zeroExtend 32 else 0 := by
  rw [State.readWord, regionOf_dirtyOffset, ← ofBool_isDirty]

/-! ## Reserved bits -/

/-- Bits 30:8 of STATUS read 0 (10_state.md R22). -/
theorem statusWord_reserved (s : State) : s.statusWord &&& 0x7FFFFF00#32 = 0 := by
  rw [statusWord_eq]
  cases s.busy <;> cases s.code <;> decide

/-- Under the bits 31:12 and 7 of CFG and DISP_CFG only bit 31 can be set (10_state.md R24, R28). -/
theorem confWord_and_reserved (b : Bool) (c : DispConf) :
    confWord b c &&& 0xFFFFF080#32 = if b then 0x80000000#32 else 0 := by
  apply BitVec.eq_of_getLsbD_eq
  intro k hk
  rw [BitVec.getLsbD_and, confWord_getLsbD b c hk, bits_getLsbD]
  cases b <;> interval_cases k <;> simp

/-- Bits 31:16 of ARGn read 0 (10_state.md R25). -/
theorem zeroExtend_half_and_high (h : Half) : h.zeroExtend 32 &&& 0xFFFF0000#32 = 0 := by
  have happend : h.zeroExtend 32 = 0#16 ++ h := BitVec.setWidth_eq_append (by decide)
  calc h.zeroExtend 32 &&& 0xFFFF0000#32
      = (0#16 ++ h) &&& (0xFFFF#16 ++ 0#16) := by rw [happend]; rfl
    _ = (0#16 &&& 0xFFFF#16) ++ (h &&& 0#16) := BitVec.and_append
    _ = 0 := by rw [BitVec.and_zero]; rfl

/-- Bits 30:16 of FB_PAGES read 0 (10_state.md R27). -/
theorem fbPages_reserved (s : State) : s.readReg .fbPages &&& 0x7FFF0000#32 = 0 := by
  cases halloc : s.fb.alloc with
  | false => simp [State.readReg, halloc]
  | true =>
    simp only [State.readReg, halloc, if_true, alloc_bit_append]
    calc (0x8000#16 ++ BitVec.ofNat 16 s.fb.pages) &&& (0x7FFF#16 ++ 0#16)
        = (0x8000#16 &&& 0x7FFF#16) ++ (BitVec.ofNat 16 s.fb.pages &&& 0#16) := BitVec.and_append
      _ = 0 := by rw [BitVec.and_zero]; rfl

end Sys2Proof.Machine
end

section
/-! SUPPORT. The statements about the host's memory accesses (20_memory.md R60-R65). -/

namespace Sys2Proof.Machine

open Sys2Proof

/-- Settles O8: the access fails the check the host's step makes first. -/
theorem onlyAlignedWordAccessesAreDefined : Obligations.OnlyAlignedWordAccessesAreDefined := by
  unfold Obligations.OnlyAlignedWordAccessesAreDefined
  intro s e rest off width v hpending hturn haction hwrong
  rw [step_of_pending hpending hturn]
  rcases haction with haction | haction <;>
    simp only [hostStep, haction, wordAligned_eq_false hwrong, Bool.false_eq_true, if_false]

/-- Settles O9: the host's step is the recorded read. -/
theorem hostReadsHaveNoSideEffect : Obligations.HostReadsHaveNoSideEffect := by
  unfold Obligations.HostReadsHaveNoSideEffect
  intro s off early rest hbusy haligned hpending
  rw [step_of_pending hpending (.inl hbusy)]
  simp only [hostStep, wordAligned_of_mod haligned, if_true]
  rw [hostRead_idle (s := { s with pending := rest }) hbusy]
  rfl

/-- Settles O10: each window reads its RAM under the condition `State.inWindow`. -/
theorem windowReadsShowTilesAndDirtyBits : Obligations.WindowReadsShowTilesAndDirtyBits := by
  unfold Obligations.WindowReadsShowTilesAndDirtyBits
  intro s i
  simp only [readWord_tileOffset, readWord_dirtyOffset, inWindow_iff, and_self]

/-- Settles O11: by the region of the offset, and the layouts of the five registers. -/
theorem ignoredWritesAndUnmappedReads : Obligations.IgnoredWritesAndUnmappedReads := by
  unfold Obligations.IgnoredWritesAndUnmappedReads
  refine ⟨fun s off v early rest hbusy haligned hoff hpending => ?_,
    fun s off _ hlow hhigh => readWord_unmapped s hlow hhigh, fun s => ?_⟩
  · rw [step_of_pending hpending (.inl hbusy)]
    simp only [hostStep, wordAligned_of_mod haligned, if_true, State.hostWrite, hbusy, Bool.false_eq_true, if_false,
      writeWord_eq_self _ v hoff]
  · simp only [readWord_regOffset]
    refine ⟨statusWord_reserved s, ?_, fun r hr => ?_, fbPages_reserved s, ?_⟩
    · exact (congrArg (· &&& _) (word_eq_confWord s.cfg)).trans (confWord_and_reserved false s.cfg)
    · simp only [List.mem_cons, List.not_mem_nil, or_false] at hr
      rcases hr with rfl | rfl | rfl | rfl <;> exact zeroExtend_half_and_high _
    · rw [readReg_dispCfg, show (0x7FFFF080#32 : Word) = 0xFFFFF080#32 &&& 0x7FFFFFFF#32 from rfl, ← BitVec.and_assoc,
        confWord_and_reserved]
      cases s.disp.valid <;> rfl

end Sys2Proof.Machine
end

section
/-! SUPPORT. What the decoder and the encoder do, read off the opcode map: a row accepts exactly the encodings of its
command, and which words those are by their fields (30_encoding.md R100-R108). -/

namespace Sys2Proof

/-! ## The fields of a command word -/

theorem commandWord_getLsbD (op : Byte) (v m : Bool) (k : Nat) :
    (commandWord op v m).getLsbD k =
      if k < 8 then op.getLsbD k else if k = 8 then v else if k = 9 then m else false := by
  simp only [commandWord, BitVec.getLsbD_append, BitVec.getLsbD_zero, BitVec.getLsbD_ofBool]
  rcases (by omega : k < 8 ∨ k = 8 ∨ k = 9 ∨ 10 ≤ k) with hk | rfl | rfl | hk
  · simp [hk, show k < 1 + 8 by omega, show k < 1 + (1 + 8) by omega]
  · simp
  · simp
  · simp [show ¬ k < 1 + (1 + 8) by omega, show ¬ k < 8 by omega, show k ≠ 8 by omega, show k ≠ 9 by omega]

/-- A word is a command word exactly when its fields are the given ones and RES is 0 (30_encoding.md R100). -/
theorem eq_commandWord_iff {w : Word} {op : Byte} {v m : Bool} :
    w = commandWord op v m ↔
      w.extractLsb' 0 8 = op ∧ w.getLsbD 8 = v ∧ w.getLsbD 9 = m ∧ w.extractLsb' 10 22 = 0 := by
  constructor
  · rintro rfl
    refine ⟨BitVec.eq_of_getLsbD_eq fun k hk => ?_, commandWord_getLsbD op v m 8, commandWord_getLsbD op v m 9,
      BitVec.eq_of_getLsbD_eq fun k hk => ?_⟩
    · simp [commandWord_getLsbD, hk]
    · simp [commandWord_getLsbD, show ¬ 10 + k < 8 by omega, show 10 + k ≠ 8 by omega, show 10 + k ≠ 9 by omega]
  · rintro ⟨rfl, rfl, rfl, hres⟩
    refine BitVec.eq_of_getLsbD_eq fun k hk => ?_
    rw [commandWord_getLsbD]
    split_ifs with hop hv hm
    · simp [hop]
    · rw [hv]
    · rw [hm]
    · have hbit := congrArg (·.getLsbD (k - 10)) hres
      simpa [show k - 10 < 22 by omega, show 10 + (k - 10) = k by omega] using hbit

/-- Masking out V where `readsV` and M where `readsM` leaves the bare opcode exactly when the word is `op` with
those two bits at most (30_encoding.md R106). -/
theorem and_not_commandWord_eq_iff {w : Word} {op : Byte} {readsV readsM : Bool} :
    w &&& ~~~commandWord 0 readsV readsM = commandWord op false false ↔
      w = commandWord op (w.getLsbD 8 && readsV) (w.getLsbD 9 && readsM) := by
  simp only [BitVec.eq_of_getLsbD_eq_iff]
  refine forall₂_congr fun k hk => ?_
  simp only [BitVec.getLsbD_and, BitVec.getLsbD_not, hk, commandWord_getLsbD]
  split_ifs with hop hv hm
  · simp
  · subst hv
    cases w.getLsbD 8 <;> simp
  · subst hm
    cases w.getLsbD 9 <;> simp
  · simp

/-! ## The rows of the opcode map -/

/-- OP of a row's command. -/
def OpcodeRow.op (r : OpcodeRow) : Byte := r.code.extractLsb' 0 8

/-- The row's command reads V: its mask leaves bit 8 free. -/
def OpcodeRow.readsV (r : OpcodeRow) : Bool := !r.mask.getLsbD 8

/-- The row's command reads M: its mask leaves bit 9 free. -/
def OpcodeRow.readsM (r : OpcodeRow) : Bool := !r.mask.getLsbD 9

/-- Match, mask and the encoder say the same of a row: OP with V and M where they are read, and nothing else. -/
theorem opcodeTable_layout : ∀ r ∈ opcodeTable,
    r.code = commandWord r.op false false ∧ r.mask = ~~~commandWord 0 r.readsV r.readsM ∧
      ∀ v m, encode (r.make v m) = commandWord r.op (v && r.readsV) (m && r.readsM) := by
  decide

theorem accepts_iff_eq_commandWord {r : OpcodeRow} (hr : r ∈ opcodeTable) (w : Word) :
    r.accepts w = true ↔ w = commandWord r.op (w.getLsbD 8 && r.readsV) (w.getLsbD 9 && r.readsM) := by
  obtain ⟨hcode, hmask, -⟩ := opcodeTable_layout r hr
  rw [← and_not_commandWord_eq_iff, ← hcode, ← hmask, OpcodeRow.accepts, beq_iff_eq]

/-- A row accepts exactly the encoding of the command it makes of the word's V and M. -/
theorem accepts_iff_eq_encode {r : OpcodeRow} (hr : r ∈ opcodeTable) (w : Word) :
    r.accepts w = true ↔ w = encode (r.make (w.getLsbD 8) (w.getLsbD 9)) := by
  obtain ⟨-, -, hencode⟩ := opcodeTable_layout r hr
  rw [accepts_iff_eq_commandWord hr, hencode]

/-- A row accepts the words of its OP with RES = 0 and with V and M set only where its command reads them
(30_encoding.md R102-R104). -/
theorem accepts_iff_fields {r : OpcodeRow} (hr : r ∈ opcodeTable) (w : Word) :
    r.accepts w = true ↔
      w.extractLsb' 0 8 = r.op ∧ w.extractLsb' 10 22 = 0 ∧ (w.getLsbD 8 = true → r.readsV = true) ∧
        (w.getLsbD 9 = true → r.readsM = true) := by
  rw [accepts_iff_eq_commandWord hr, eq_commandWord_iff, Bool.eq_self_and, Bool.eq_self_and]
  tauto

/-! ## The decoder -/

theorem eq_encode_of_decode {w : Word} {i : Instr} (h : decode w = .ok i) : w = encode i := by
  unfold decode at h
  split at h
  next r hfind =>
    cases h
    have haccepts : r.accepts w = true := List.find?_some (p := fun r : OpcodeRow => r.accepts w) hfind
    exact (accepts_iff_eq_encode (List.mem_of_find?_eq_some hfind) w).1 haccepts
  next => cases h

theorem decode_encode (i : Instr) : decode (encode i) = .ok i := by
  cases i with
  | fbSetPixel v | dispOn v | drawLine v | drawRect v | drawCircle v | drawEllipseRect v => cases v <;> rfl
  | drawFill v m => cases v <;> cases m <;> rfl
  | _ => rfl

/-- A word is illegal exactly when no row of the opcode map accepts it (30_encoding.md R107). -/
theorem exists_decode_error_iff {w : Word} :
    (∃ e, decode w = .error e) ↔ ∀ r ∈ opcodeTable, ¬ r.accepts w = true := by
  rw [← List.find?_eq_none]
  unfold decode
  cases opcodeTable.find? (·.accepts w) <;> simp

/-! ## Which opcodes the map assigns, and what their commands read -/

/-- An opcode has no row exactly when it is reserved (30_encoding.md R108). -/
theorem no_row_iff_reserved (op : Byte) :
    (∀ r ∈ opcodeTable, op ≠ r.op) ↔
      op.toNat ∈ [0x00] ++ List.range' 0x06 10 ++ List.range' 0x17 9 ++ List.range' 0x25 11 ++
        List.range' 0x34 204 := by
  have hlt := op.isLt
  have hrows : (∀ r ∈ opcodeTable, op ≠ r.op) ↔ op.toNat ∉ opcodeTable.map (·.op.toNat) := by
    simp [BitVec.toNat_inj, eq_comm]
  have hops : opcodeTable.map (·.op.toNat) =
      List.range' 0x01 5 ++ List.range' 0x10 7 ++ List.range' 0x20 5 ++ List.range' 0x30 4 := by decide
  simp only [hrows, hops, List.mem_append, List.mem_singleton, List.mem_range'_1]
  omega

/-- The commands that read V and the one that reads M, by their opcodes (30_encoding.md R102, R103). -/
theorem opcodeTable_reads : ∀ r ∈ opcodeTable,
    (r.readsV = true ↔ r.op.toNat ∈ [0x03, 0x11, 0x20, 0x21, 0x22, 0x23, 0x24]) ∧
      (r.readsM = true ↔ r.op.toNat = 0x24) := by
  decide

end Sys2Proof
end

section
/-! SUPPORT. The statements about the encoding and about the step that runs a command (30_encoding.md R100-R112). -/

namespace Sys2Proof.Machine

open Sys2Proof

/-! ## Encoding -/

/-- Settles O2: a row of the opcode map accepts exactly the encodings of its command, and each encoding is accepted. -/
theorem decodeAndEncodeAgree : Obligations.DecodeAndEncodeAgree := by
  unfold Obligations.DecodeAndEncodeAgree
  intro w i
  constructor
  · exact eq_encode_of_decode
  · rintro rfl
    exact decode_encode i

/-- Settles O3: a word is illegal when no row accepts it: its opcode has no row, or the other fields break that row. -/
theorem illegalWordsAreThoseOfTheRule : Obligations.IllegalWordsAreThoseOfTheRule := by
  unfold Obligations.IllegalWordsAreThoseOfTheRule
  intro w
  rw [exists_decode_error_iff, ← no_row_iff_reserved]
  constructor
  · intro hillegal
    by_contra hlegal
    push Not at hlegal
    obtain ⟨⟨r, hr, hop⟩, hres, hv, hm⟩ := hlegal
    obtain ⟨hreadsV, hreadsM⟩ := opcodeTable_reads r hr
    rw [hop] at hv hm
    exact hillegal r hr ((accepts_iff_fields hr w).2
      ⟨hop, hres, fun h => hreadsV.2 (hv h), fun h => hreadsM.2 (hm h)⟩)
  · intro hbad r hr haccepts
    obtain ⟨hop, hres, hv, hm⟩ := (accepts_iff_fields hr w).1 haccepts
    obtain ⟨hreadsV, hreadsM⟩ := opcodeTable_reads r hr
    rw [hop] at hbad
    rcases hbad with hreserved | hres' | ⟨hv', hnot⟩ | ⟨hm', hnot⟩
    · exact hreserved r hr rfl
    · exact hres' hres
    · exact hnot (hreadsV.1 (hv hv'))
    · exact hnot (hreadsM.1 (hm hm'))

/-- Settles O1: the nine legal words are encodings; the decoder names what each of the other four breaks. -/
theorem specWordsDecode : Obligations.SpecWordsDecode := by
  unfold Obligations.SpecWordsDecode
  decide

/-! ## The step -/

theorem runCommand_of_decode_error {s : State} {e : DecodeError} (h : decode s.cmd = .error e) :
    runCommand s = .next (s.finish .invalidArgument) := by
  simp only [runCommand, h]

theorem withFetchWord_cmd_encode (s : State) (i : Instr) : (s.withFetchWord 32 (encode i).toNat).cmd = encode i := by
  simp [State.withFetchWord, tableWord, Nat.mod_eq_of_lt (encode i).isLt]

/-- No early action stands before the engine's step (log entry 2). -/
theorem withFetchWord_pending_head {s : State} {nbits w : Nat} {e : HostEvent} {rest : List HostEvent}
    (h : (s.withFetchWord nbits w).pending = e :: rest) : e.early = false := by
  have hhead := List.head?_dropWhile_not (·.early) s.pending
  rw [show s.pending.dropWhile (·.early) = e :: rest from h] at hhead
  simpa using hhead

/-- Settles O4: the engine's turn runs what CMD decodes to, and `withFetchWord` makes it the engine's turn. -/
theorem stepRunsTheDecodedCommand : Obligations.StepRunsTheDecodedCommand := by
  unfold Obligations.StepRunsTheDecodedCommand
  refine ⟨fun s i hbusy hpending hdecode => ?_, fun s i => ?_⟩
  · rw [step_of_busy hbusy hpending, runCommand_of_decode hdecode]
  · have hdecode : decode (s.withFetchWord 32 (encode i).toNat).cmd = .ok i := by
      rw [withFetchWord_cmd_encode, decode_encode]
    rw [step_of_busy rfl fun _ _ => withFetchWord_pending_head, runCommand_of_decode hdecode]

/-- Settles O5: the engine's turn is then `State.finish`, which writes CODE and clears BUSY. -/
theorem illegalWordOnlySetsStatus : Obligations.IllegalWordOnlySetsStatus := by
  unfold Obligations.IllegalWordOnlySetsStatus
  intro s e hbusy hpending hdecode
  rw [step_of_busy hbusy hpending, runCommand_of_decode_error hdecode]
  rfl

/-! ## WAIT -/

/-- Bits 7:0 of STATUS are the number of CODE (10_state.md R22). -/
theorem readWord_status_code (s : State) :
    (s.readWord (regOffset .status)).extractLsb' 0 8 = statusByte s.code := by
  rw [readWord_regOffset]
  change s.statusWord.extractLsb' 0 8 = _
  rw [State.statusWord, BitVec.extractLsb'_append_eq_of_add_le (by omega),
    BitVec.extractLsb'_append_eq_of_add_le (by omega), BitVec.extractLsb'_eq_self]

/-- The host's turn at a WAIT is one poll of STATUS (30_encoding.md R112). -/
theorem step_wait {s : State} {k : Nat} {early : Bool} {rest : List HostEvent}
    (hpending : s.pending = ⟨.wait k, early⟩ :: rest) (hturn : s.busy = false ∨ early = true) :
    step s = .next (({ s with pending := rest } : State).pollStatus k) := by
  rw [step_of_pending hpending hturn]
  rfl

theorem waitEvent_pred (k : Nat) : waitEvent (k - 1) = ⟨.wait (k - 1), decide (1 < k)⟩ := by
  simp only [waitEvent, Nat.sub_pos_iff_lt]

/-- Settles O60: a poll reads BUSY in bit 31, and the loop goes on exactly while it is set. -/
theorem waitPollsStatusUntilNotBusy : Obligations.WaitPollsStatusUntilNotBusy := by
  unfold Obligations.WaitPollsStatusUntilNotBusy
  refine ⟨fun s k early rest hbusy hpending => ?_, fun s k rest hbusy hpending => ?_,
    fun s k i rest hbusy hdecode hpending => ?_⟩
  · refine ⟨_, (readWord_status_busy s).trans hbusy, readWord_status_code s, ?_⟩
    rw [step_wait hpending (.inl hbusy), pollStatus_eq, if_neg (by simp [hbusy])]
    rfl
  · refine ⟨_, (readWord_status_busy s).trans hbusy, readWord_status_code s, ?_⟩
    rw [step_wait hpending (.inr rfl), pollStatus_eq, if_pos hbusy, waitEvent_pred]
    rfl
  · have hlate : ∀ e r, s.pending = e :: r → e.early = false := by
      intro e r he
      obtain ⟨rfl, -⟩ := List.cons.inj (hpending.symm.trans he)
      rfl
    rw [step_of_busy hbusy hlate, runCommand_of_decode hdecode]

end Sys2Proof.Machine
end

section
/-! SUPPORT. The laws of the pixel procedures (40_framebuffer.md R131, R132, R138): what a pixel write leaves in every bit of
every tile, in the dirty bits and in FB.count, and what a pixel read gives after it. -/

namespace Sys2Proof.Machine

open Sys2Proof

/-! ## Pixels in bounds -/

theorem inBounds_iff (s : State) (x y : Int) :
    s.inBounds x y = true ↔ 0 ≤ x ∧ x < s.fb.columns ∧ 0 ≤ y ∧ y < s.fb.height := by
  simp only [State.inBounds, Bool.and_eq_true, decide_eq_true_eq, and_assoc]

theorem pixelGet_of_inBounds {s : State} {x y : Int} (hb : s.inBounds x y = true) :
    pixelGet s x y = some ((s.tile (s.tileIndex x y)).getLsbD (y.toNat % 8)) :=
  if_pos hb

theorem pixelGet_of_not_inBounds {s : State} {x y : Int} (hb : ¬ s.inBounds x y = true) : pixelGet s x y = none :=
  if_neg hb

theorem inBounds_of_pixelGet_ne_none {s : State} {x y : Int} (h : pixelGet s x y ≠ none) : s.inBounds x y = true := by
  by_contra hb
  exact h (pixelGet_of_not_inBounds hb)

theorem pixelSet_of_not_inBounds {s : State} {x y : Int} (hb : ¬ s.inBounds x y = true) (v : Bool) :
    pixelSet s x y v = (s, .outOfBounds) :=
  if_neg hb

/-- A pixel that has the value already is not written. -/
theorem pixelSet_of_same {s : State} {x y : Int} {v : Bool} (hb : s.inBounds x y = true)
    (hsame : (s.tile (s.tileIndex x y)).getLsbD (y.toNat % 8) = v) : pixelSet s x y v = (s, .ok) := by
  rw [pixelSet, if_pos hb]
  exact if_pos hsame

theorem pixelSet_of_other {s : State} {x y : Int} {v : Bool} (hb : s.inBounds x y = true)
    (hother : (s.tile (s.tileIndex x y)).getLsbD (y.toNat % 8) ≠ v) :
    pixelSet s x y v = (pixelFlipped s x y v, .ok) := by
  rw [pixelSet, if_pos hb]
  exact if_neg hother

theorem pixelSet_snd_of_inBounds {s : State} {x y : Int} (hb : s.inBounds x y = true) (v : Bool) :
    (pixelSet s x y v).2 = .ok := by
  by_cases hbit : (s.tile (s.tileIndex x y)).getLsbD (y.toNat % 8) = v
  · rw [pixelSet_of_same hb hbit]
  · rw [pixelSet_of_other hb hbit]

/-- The column and the row within the column are read off the tile index, and the bit gives the rest of the row
(20_memory.md R80). -/
theorem pixel_eq_of_tileIndex_eq {s : State} {x y x' y' : Int} (hb : s.inBounds x y = true)
    (hb' : s.inBounds x' y' = true) (hindex : s.tileIndex x' y' = s.tileIndex x y)
    (hbit : y'.toNat % 8 = y.toNat % 8) : (x', y') = (x, y) := by
  obtain ⟨hx0, hx, hy0, hy⟩ := (inBounds_iff s x y).1 hb
  obtain ⟨hx0', hx', hy0', hy'⟩ := (inBounds_iff s x' y').1 hb'
  have hindex : x'.toNat + s.fb.columns * (y'.toNat / 8) = x.toNat + s.fb.columns * (y.toNat / 8) := by
    simpa only [State.tileIndex, bitsPerTile, Nat.mul_comm, Nat.add_comm] using hindex
  have hcol : x.toNat < s.fb.columns := by omega
  have hcol' : x'.toNat < s.fb.columns := by omega
  have hcolumn : x'.toNat = x.toNat := by
    have hmod := congrArg (· % s.fb.columns) hindex
    simpa only [Nat.add_mul_mod_self_left, Nat.mod_eq_of_lt hcol, Nat.mod_eq_of_lt hcol'] using hmod
  have hpage : y'.toNat / 8 = y.toNat / 8 := by
    rw [hcolumn] at hindex
    exact Nat.eq_of_mul_eq_mul_left (by omega) (Nat.add_left_cancel hindex)
  simp only [Prod.mk.injEq]
  omega

/-! ## A flipped pixel -/

theorem pixelFlipped_tile (s : State) (x y : Int) (v : Bool) (j : Nat) :
    (pixelFlipped s x y v).tile j =
      if j = s.tileIndex x y then withTileBit (s.tile (s.tileIndex x y)) (y.toNat % 8) v else s.tile j := by
  simp only [pixelFlipped, markDirty_tile, setTile_tile, bitsPerTile]

theorem pixelFlipped_isDirty (s : State) (x y : Int) (v : Bool) (j : Nat) :
    (pixelFlipped s x y v).isDirty j = (s.isDirty j || decide (j = s.tileIndex x y)) := by
  simp only [pixelFlipped, markDirty_isDirty, setTile_isDirty]

theorem markDirty_fb (s : State) (i : Nat) :
    (s.markDirty i).fb = { s.fb with count := s.fb.count + if s.isDirty i then 0 else 1 } := by
  unfold State.markDirty
  by_cases hd : s.isDirty i = true
  · rw [if_pos hd, if_pos hd]
    rfl
  · rw [if_neg hd, if_neg hd]
    rfl

theorem pixelFlipped_fb (s : State) (x y : Int) (v : Bool) :
    (pixelFlipped s x y v).fb =
      { s.fb with count := s.fb.count + if s.isDirty (s.tileIndex x y) then 0 else 1 } :=
  markDirty_fb _ _

/-! ## A pixel write -/

/-- A pixel write gives one bit of one tile the value, whatever it was, and leaves every other bit of every tile. -/
theorem pixelSet_getLsbD {s : State} {x y : Int} (hb : s.inBounds x y = true) (v : Bool) (j n : Nat) :
    ((pixelSet s x y v).1.tile j).getLsbD n =
      if j = s.tileIndex x y ∧ n = y.toNat % 8 then v else (s.tile j).getLsbD n := by
  by_cases hbit : (s.tile (s.tileIndex x y)).getLsbD (y.toNat % 8) = v
  · rw [pixelSet_of_same hb hbit]
    split
    · rename_i hhere
      obtain ⟨rfl, rfl⟩ := hhere
      exact hbit
    · rfl
  · rw [pixelSet_of_other hb hbit, pixelFlipped_tile]
    by_cases hj : j = s.tileIndex x y
    · rw [if_pos hj, withTileBit_getLsbD _ (Nat.mod_lt _ (by decide)), hj]
      simp only [true_and]
    · simp only [hj, if_false, false_and]

/-- A pixel write leaves every other tile as it was. -/
theorem pixelSet_tile_other {s : State} {x y : Int} (hb : s.inBounds x y = true) (v : Bool) {j : Nat}
    (hj : j ≠ s.tileIndex x y) : (pixelSet s x y v).1.tile j = s.tile j := by
  apply BitVec.eq_of_getLsbD_eq
  intro n _
  rw [pixelSet_getLsbD hb, if_neg fun h => hj h.1]

/-- A pixel write leaves every other tile's dirty bit as it was. -/
theorem pixelSet_isDirty_other {s : State} {x y : Int} (hb : s.inBounds x y = true) (v : Bool) {j : Nat}
    (hj : j ≠ s.tileIndex x y) : (pixelSet s x y v).1.isDirty j = s.isDirty j := by
  by_cases hbit : (s.tile (s.tileIndex x y)).getLsbD (y.toNat % 8) = v
  · rw [pixelSet_of_same hb hbit]
  · simp only [pixelSet_of_other hb hbit, pixelFlipped_isDirty, hj, decide_false, Bool.or_false]

@[simp] theorem pixelSet_inBounds (s : State) (x y : Int) (v : Bool) (x' y' : Int) :
    (pixelSet s x y v).1.inBounds x' y' = s.inBounds x' y' := by
  obtain ⟨_, _, _, h⟩ := pixelSet_frame s x y v
  rw [h]
  rfl

@[simp] theorem pixelSet_tileIndex (s : State) (x y : Int) (v : Bool) (x' y' : Int) :
    (pixelSet s x y v).1.tileIndex x' y' = s.tileIndex x' y' := by
  obtain ⟨_, _, _, h⟩ := pixelSet_frame s x y v
  rw [h]
  rfl

/-- A pixel written in bounds reads back as written (40_framebuffer.md R138). -/
theorem pixelGet_pixelSet_same {s : State} {x y : Int} (hb : s.inBounds x y = true) (v : Bool) :
    pixelGet (pixelSet s x y v).1 x y = some v := by
  rw [pixelGet_of_inBounds (by rwa [pixelSet_inBounds]), pixelSet_tileIndex, pixelSet_getLsbD hb, if_pos ⟨rfl, rfl⟩]

/-- Every other pixel reads as before (40_framebuffer.md R138). -/
theorem pixelGet_pixelSet_other {s : State} {x y : Int} (hb : s.inBounds x y = true) (v : Bool) {x' y' : Int}
    (hne : (x', y') ≠ (x, y)) : pixelGet (pixelSet s x y v).1 x' y' = pixelGet s x' y' := by
  by_cases hb' : s.inBounds x' y' = true
  · have helsewhere : ¬ (s.tileIndex x' y' = s.tileIndex x y ∧ y'.toNat % 8 = y.toNat % 8) :=
      fun h => hne (pixel_eq_of_tileIndex_eq hb hb' h.1 h.2)
    rw [pixelGet_of_inBounds (by rwa [pixelSet_inBounds]), pixelSet_tileIndex, pixelSet_getLsbD hb, if_neg helsewhere,
      pixelGet_of_inBounds hb']
  · rw [pixelGet_of_not_inBounds hb', pixelGet_of_not_inBounds (by rwa [pixelSet_inBounds])]

end Sys2Proof.Machine
end

section
/-! SUPPORT. What each framebuffer command does in each of its cases (40_framebuffer.md R130, R133-R137). -/

namespace Sys2Proof.Machine

open Sys2Proof

/-! ## No framebuffer -/

/-- The allocation check every command that needs a framebuffer begins with (40_framebuffer.md R130, 42_draw.md R200,
43_fill_stack.md R232). -/
theorem exec_without_framebuffer {i : Instr} {s : State} (hi : needsFramebuffer i = true) (hfree : s.fb.alloc = false) :
    exec i s = .next (s.finish .invalidArgument) := by
  have hno : ¬ s.fb.alloc = true := by simp [hfree]
  cases i with
  | fbClear | fbSetPixel _ | fbGetPixel | fbDestroy | drawFill _ _ => exact if_neg hno
  | drawLine _ | drawRect _ | drawCircle _ | drawEllipseRect _ => exact congrArg Host.Outcome.next (if_neg hno)
  | fbCreate | dispInit | dispOn _ | dispUpdate | dispUpdateAll | dispUpdateDiff | dispSetColRange | dispSetPageRange
  | stkAlloc | stkPush | stkPop | stkDealloc => cases hi

/-! ## FB_CREATE -/

theorem execFbCreate_of_alloc {s : State} (halloc : s.fb.alloc = true) :
    exec .fbCreate s = .next (s.finish .invalidArgument) :=
  congrArg Host.Outcome.next (if_pos halloc)

theorem execFbCreate_of_bad_size {s : State} (hfree : s.fb.alloc = false)
    (hsize : ¬ (1 ≤ s.u16 0 ∧ s.u16 0 ≤ maxDim ∧ 1 ≤ s.u16 1 ∧ s.u16 1 ≤ maxDim)) :
    exec .fbCreate s = .next (s.finish .invalidArgument) := by
  rw [exec, execFbCreate, fbCreate, if_neg (by simp [hfree]), if_neg hsize]

theorem execFbCreate_of_many_tiles {s : State} (hfree : s.fb.alloc = false)
    (hsize : 1 ≤ s.u16 0 ∧ s.u16 0 ≤ maxDim ∧ 1 ≤ s.u16 1 ∧ s.u16 1 ≤ maxDim)
    (hlarge : s.params.fbMaxTiles < s.u16 0 * ((s.u16 1 + 7) / 8)) :
    exec .fbCreate s = .next (s.finish .outOfMemory) := by
  rw [exec, execFbCreate, fbCreate, if_neg (by simp [hfree]), if_pos hsize]
  exact congrArg Host.Outcome.next (if_neg (Nat.not_le.2 hlarge))

theorem execFbCreate_of_fits {s : State} (hfree : s.fb.alloc = false)
    (hsize : 1 ≤ s.u16 0 ∧ s.u16 0 ≤ maxDim ∧ 1 ≤ s.u16 1 ∧ s.u16 1 ≤ maxDim)
    (hfits : s.u16 0 * ((s.u16 1 + 7) / 8) ≤ s.params.fbMaxTiles) :
    exec .fbCreate s =
      .next (((((s.setFb ⟨true, s.u16 0, s.u16 1, (s.u16 1 + 7) / 8, s.u16 0 * ((s.u16 1 + 7) / 8), 0⟩).setDirtyRam
        (Ram.zeroed 1)).setTiles (Ram.unspecified 8 s.draws)).drew).finish .ok) := by
  rw [exec, execFbCreate, fbCreate, if_neg (by simp [hfree]), if_pos hsize]
  exact congrArg Host.Outcome.next (if_pos hfits)

/-! ## FB_CLEAR and FB_DESTROY -/

theorem execFbClear_of_alloc {s : State} (halloc : s.fb.alloc = true) :
    exec .fbClear s =
      .next ((((s.setTiles (Ram.zeroed 8)).setDirtyRam (Ram.onesBelow s.fb.ntiles)).setCount s.fb.ntiles).finish .ok) :=
  if_pos halloc

theorem execFbDestroy_of_alloc {s : State} (halloc : s.fb.alloc = true) :
    exec .fbDestroy s =
      .next (((((s.setFb Fb.none).setTiles (Ram.unspecified 8 s.draws)).setDirtyRam
        (Ram.unspecified 1 s.draws)).drew).finish .ok) :=
  if_pos halloc

/-- Without a framebuffer no word of a window is readable (20_memory.md R62). -/
theorem inWindow_of_free {s : State} (hfree : s.fb.alloc = false) (i : Nat) : s.inWindow i = false := by
  simp only [State.inWindow, hfree, Bool.false_and]

/-! ## FB_SET_PIXEL and FB_GET_PIXEL -/

theorem execFbSetPixel_of_alloc {s : State} (halloc : s.fb.alloc = true) (v : Bool) :
    exec (.fbSetPixel v) s =
      .next ((pixelSet s (s.s16 0) (s.s16 1) v).1.finish (pixelSet s (s.s16 0) (s.s16 1) v).2) :=
  if_pos halloc

theorem execFbSetPixel_of_inBounds {s : State} (halloc : s.fb.alloc = true)
    (hb : s.inBounds (s.s16 0) (s.s16 1) = true) (v : Bool) :
    exec (.fbSetPixel v) s = .next ((pixelSet s (s.s16 0) (s.s16 1) v).1.finish .ok) := by
  rw [execFbSetPixel_of_alloc halloc, pixelSet_snd_of_inBounds hb]

theorem execFbSetPixel_of_not_inBounds {s : State} (halloc : s.fb.alloc = true)
    (hb : ¬ s.inBounds (s.s16 0) (s.s16 1) = true) (v : Bool) :
    exec (.fbSetPixel v) s = .next (s.finish .outOfBounds) := by
  rw [execFbSetPixel_of_alloc halloc, pixelSet_of_not_inBounds hb]

theorem execFbGetPixel_of_some {s : State} {b : Bool} (halloc : s.fb.alloc = true)
    (hget : pixelGet s (s.s16 0) (s.s16 1) = some b) :
    exec .fbGetPixel s = .next ((s.setResult (if b then 1 else 0)).finish .ok) := by
  simp only [exec, execFbGetPixel, halloc, if_true, hget]
  cases b <;> rfl

theorem execFbGetPixel_of_none {s : State} (halloc : s.fb.alloc = true)
    (hget : pixelGet s (s.s16 0) (s.s16 1) = none) : exec .fbGetPixel s = .next (s.finish .outOfBounds) := by
  simp only [exec, execFbGetPixel, halloc, if_true, hget]

end Sys2Proof.Machine
end

section
/-! SUPPORT. The statements about the framebuffer commands (40_framebuffer.md R130-R138). -/

namespace Sys2Proof.Machine

open Sys2Proof

/-- Settles O24: each of the nine commands begins with the allocation check. -/
theorem commandsNeedAFramebuffer : Obligations.CommandsNeedAFramebuffer := by
  unfold Obligations.CommandsNeedAFramebuffer
  intro i s hi hfree
  exact exec_without_framebuffer hi hfree

/-- Settles O25: the three checks in their order, then the allocation. -/
theorem fbCreateAllocatesTheFramebuffer : Obligations.FbCreateAllocatesTheFramebuffer := by
  unfold Obligations.FbCreateAllocatesTheFramebuffer
  refine ⟨decode_encode .fbCreate, ?_⟩
  rintro s w h rfl rfl
  refine ⟨execFbCreate_of_alloc, execFbCreate_of_bad_size, fun hfree hw hw' hh hh' hlarge => ?_,
    fun hfree hw hw' hh hh' hfits => ?_⟩
  · exact execFbCreate_of_many_tiles hfree ⟨hw, hw', hh, hh'⟩ hlarge
  · refine ⟨_, execFbCreate_of_fits hfree ⟨hw, hw', hh, hh'⟩ hfits, rfl, rfl, rfl, fun _ _ => rfl, ?_⟩
    simp [keepsOperands, keepsBus, keepsStacks, keepsOutside]

/-- Settles O26: the two RAMs FB_CLEAR leaves, read below FB.ntiles. -/
theorem fbClearZeroesAndDirtiesEveryTile : Obligations.FbClearZeroesAndDirtiesEveryTile := by
  unfold Obligations.FbClearZeroesAndDirtiesEveryTile
  refine ⟨decode_encode .fbClear, fun s => ⟨exec_without_framebuffer rfl, fun halloc => ?_⟩⟩
  refine ⟨_, execFbClear_of_alloc halloc, rfl, rfl, fun i hi => ⟨rfl, ?_⟩, rfl, ?_⟩
  · simp [hi]
  · simp [keepsOperands, keepsBus, keepsStacks, keepsOutside]

/-- Settles O27: in bounds the command is `pixelSet`, which writes the two RAMs and FB.count only. -/
theorem fbSetPixelWritesOnePixel : Obligations.FbSetPixelWritesOnePixel := by
  unfold Obligations.FbSetPixelWritesOnePixel
  refine ⟨decode_encode (.fbSetPixel false), decode_encode (.fbSetPixel true), ?_⟩
  rintro s v x y rfl rfl
  refine ⟨exec_without_framebuffer rfl, fun halloc hout => ?_, fun halloc hx0 hx hy0 hy => ?_⟩
  · exact execFbSetPixel_of_not_inBounds halloc (mt (inBounds_iff ..).1 hout) v
  · have hb : s.inBounds (s.s16 0) (s.s16 1) = true := (inBounds_iff ..).2 ⟨hx0, hx, hy0, hy⟩
    refine ⟨_, s.tileIndex (s.s16 0) (s.s16 1), rfl, execFbSetPixel_of_inBounds halloc hb v, rfl, rfl, fun n => ?_,
      fun j hj => ⟨pixelSet_tile_other hb v hj, pixelSet_isDirty_other hb v hj⟩, fun hsame => ?_, fun hdiff => ?_, ?_⟩
    · exact (pixelSet_getLsbD hb v _ n).trans (by simp only [true_and]; rfl)
    · rw [pixelSet_of_same hb hsame]
      rfl
    · rw [pixelSet_of_other hb hdiff]
      exact ⟨by simp [pixelFlipped_isDirty], pixelFlipped_fb ..⟩
    · obtain ⟨_, _, _, hframe⟩ := pixelSet_frame s (s.s16 0) (s.s16 1) v
      simp [hframe, keepsOperands, keepsBus, keepsStacks, keepsOutside]

/-- Settles O28: the law of the pixel procedures, at the state FB_SET_PIXEL leaves. -/
theorem pixelReadsBackAsWritten : Obligations.PixelReadsBackAsWritten := by
  unfold Obligations.PixelReadsBackAsWritten
  intro s t v halloc hpixel hexec
  have hb := inBounds_of_pixelGet_ne_none hpixel
  rw [execFbSetPixel_of_inBounds halloc hb] at hexec
  cases hexec
  refine ⟨?_, fun x y hne => pixelGet_pixelSet_other hb v hne⟩
  obtain ⟨_, _, _, hframe⟩ := pixelSet_frame s (s.s16 0) (s.s16 1) v
  have hsame := pixelGet_pixelSet_same hb v
  rw [hframe] at hsame ⊢
  exact execFbGetPixel_of_some halloc hsame

/-- Settles O29: `pixelGet` reads the bit of the tile RAM in bounds, and nothing out of bounds. -/
theorem fbGetPixelReturnsThePixel : Obligations.FbGetPixelReturnsThePixel := by
  unfold Obligations.FbGetPixelReturnsThePixel
  refine ⟨decode_encode .fbGetPixel, ?_⟩
  rintro s x y rfl rfl
  refine ⟨exec_without_framebuffer rfl, fun halloc hout => ?_, fun halloc hx0 hx hy0 hy => ?_⟩
  · exact execFbGetPixel_of_none halloc (pixelGet_of_not_inBounds (mt (inBounds_iff ..).1 hout))
  · exact execFbGetPixel_of_some halloc (pixelGet_of_inBounds ((inBounds_iff ..).2 ⟨hx0, hx, hy0, hy⟩))

/-- Settles O30: the record FB_DESTROY leaves has no framebuffer, on which the windows and the other commands turn. -/
theorem fbDestroyReleasesTheFramebuffer : Obligations.FbDestroyReleasesTheFramebuffer := by
  unfold Obligations.FbDestroyReleasesTheFramebuffer
  refine ⟨decode_encode .fbDestroy, fun s => ⟨exec_without_framebuffer rfl, fun halloc => ?_⟩⟩
  refine ⟨_, execFbDestroy_of_alloc halloc, rfl, rfl, rfl, fun i => ⟨?_, ?_⟩, ?_,
    fun i hi => exec_without_framebuffer hi rfl, ?_⟩
  · rw [readWord_tileOffset, inWindow_of_free rfl]
    rfl
  · rw [readWord_dirtyOffset, inWindow_of_free rfl]
    rfl
  · rw [readWord_regOffset]
    rfl
  · simp [keepsOperands, keepsBus, keepsStacks, keepsOutside]

end Sys2Proof.Machine
end

section
/-! SUPPORT. What the display commands send when started with BUSMODE = 1: sequences of writes planned in advance, each
up to the first write not answered OK and then one stop (20_memory.md R74-R78, 41_display.md R162-R173). -/

namespace Sys2Proof.Machine

open Sys2Proof

theorem State.Inv.busMode {s : State} (h : s.Inv) : s.busMode = true := by
  obtain ⟨-, -, -, -, hmode, -, -⟩ := h
  exact hmode

theorem State.Inv.typeData_ne {s : State} (h : s.Inv) : s.params.typeData ≠ s.params.typeCmd := by
  obtain ⟨⟨hne, -⟩, -⟩ := h
  exact hne

/-! ## The checks at the entry -/

/-- `DispReady; FbMatches` with the numbers written out (41_display.md R160). -/
theorem updateReady_iff (s : State) :
    s.updateReady = true ↔
      s.disp.valid = true ∧ s.fb.alloc = true ∧ s.fb.columns = 128 ∧
        s.fb.height = if s.disp.conf.geom then 64 else 32 := by
  simp only [State.updateReady, State.fbMatches, Bool.and_eq_true, beq_iff_eq, and_assoc]
  rfl

/-- One of the two checks fails, as the statements of the updates say it (41_display.md R160). -/
theorem not_updateReady {s : State}
    (h : s.disp.valid = false ∨
      ¬ (s.fb.alloc = true ∧ s.fb.columns = 128 ∧ s.fb.height = if s.disp.conf.geom then 64 else 32)) :
    ¬ s.updateReady = true := by
  rw [updateReady_iff]
  rintro ⟨hvalid, hmatch⟩
  exact h.elim (fun hinvalid => by simp [hvalid] at hinvalid) (· hmatch)

/-- `DispReady` fails (41_display.md R160). -/
theorem exec_without_display {i : Instr} {s : State} (hi : needsDisplay i = true) (hvalid : s.disp.valid = false) :
    exec i s = .next (s.finish .invalidArgument) := by
  have hno : ¬ s.disp.valid = true := by simp [hvalid]
  have hready : ¬ s.updateReady = true := not_updateReady (.inl hvalid)
  cases i with
  | dispOn _ => exact if_neg hno
  | dispUpdate | dispUpdateAll | dispUpdateDiff => exact if_neg hready
  | dispSetColRange | dispSetPageRange => exact congrArg Host.Outcome.next (if_neg hno)
  | fbCreate | fbClear | fbSetPixel _ | fbGetPixel | fbDestroy | dispInit | drawLine _ | drawRect _ | drawCircle _
  | drawEllipseRect _ | drawFill _ _ | stkAlloc | stkPush | stkPop | stkDealloc => cases hi

/-- `DispReady` or `FbMatches` fails (41_display.md R160). -/
theorem exec_update_not_ready {i : Instr} {s : State} (hi : isUpdate i = true) (hready : ¬ s.updateReady = true) :
    exec i s = .next (s.finish .invalidArgument) := by
  cases i with
  | dispUpdate | dispUpdateAll | dispUpdateDiff => exact if_neg hready
  | fbCreate | fbClear | fbSetPixel _ | fbGetPixel | fbDestroy | dispInit | dispOn _ | dispSetColRange
  | dispSetPageRange | drawLine _ | drawRect _ | drawCircle _ | drawEllipseRect _ | drawFill _ _ | stkAlloc | stkPush
  | stkPop | stkDealloc => cases hi

/-! ## One sequence -/

/-- A sequence of one write: it is sent, whatever it is answered. -/
theorem sentBy_singleton {addr : BusAddr} {w : List Byte} {evs : List BusEvent} {st : BusStatus}
    (h : SentBy addr [w] evs st) : evs = [.write addr w true st] := by
  rcases h with ⟨rfl, rfl⟩ | ⟨-, sent, w', rest, hws, rfl⟩
  · rfl
  · obtain ⟨rfl, hw⟩ : sent = [] ∧ [w] = w' :: rest := by
      cases sent with
      | nil => exact ⟨rfl, hws⟩
      | cons _ _ => simp at hws
    obtain ⟨rfl, -⟩ := List.cons.inj hw
    rfl

/-- A command that is one outermost wrap: the writes of its body, one stop, and the status in CODE (60_exceptions.md
R264). -/
theorem finishBus_seq {s : State} {body : BusProc} {ws : List (List Byte)} (hmode : s.busMode = true)
    (hbody : Sends (s.setBusMode false) ws (body (s.setBusMode false))) :
    ∃ evs answers st, SentBy s.disp.conf.addr ws evs st ∧
      finishBus (seq body) s = (s.afterEvents (evs ++ [.stop]) answers).finish (busCode st) := by
  obtain ⟨evs, answers, hsent, hst⟩ := seq_outer hmode hbody
  exact ⟨evs, answers, _, hsent, by rw [finishBus, hst]⟩

theorem sends_setPageRange {s : State} (h : s.busMode = false) (b e : Byte) :
    Sends s (cmdWrites s.params [0x22#8, b, e]) (setPageRange b e s) :=
  sends_seq_nested h (sends_cmdBytes _ s h)

theorem sends_setColRange {s : State} (h : s.busMode = false) (b e : Byte) :
    Sends s (cmdWrites s.params [0x21#8, b, e]) (setColRange b e s) :=
  sends_seq_nested h (sends_cmdBytes _ s h)

theorem cmdWrites_append (p : Params) (bs bs' : List Byte) :
    cmdWrites p (bs ++ bs') = cmdWrites p bs ++ cmdWrites p bs' := List.map_append

/-- DISP_ON of a configured display (41_display.md R166). -/
theorem execDispOn_sends {s : State} (hvalid : s.disp.valid = true) (hmode : s.busMode = true) (v : Bool) :
    ∃ evs answers st, SentBy s.disp.conf.addr (cmdWrites s.params [if v then 0xAF#8 else 0xAE#8]) evs st ∧
      exec (.dispOn v) s = .next ((s.afterEvents (evs ++ [.stop]) answers).finish (busCode st)) := by
  obtain ⟨evs, answers, st, hsent, hfinish⟩ :=
    finishBus_seq hmode (sends_cmdBytes [if v then 0xAF#8 else 0xAE#8] _ rfl)
  exact ⟨evs, answers, st, hsent, (if_pos hvalid).trans (congrArg Host.Outcome.next hfinish)⟩

/-! ## The range commands -/

/-- The byte a range command sends first (41_display.md R162, R163). -/
theorem execRange_eq {i : Instr} {c : Byte} (s : State)
    (hi : (i = .dispSetColRange ∧ c = 0x21#8) ∨ (i = .dispSetPageRange ∧ c = 0x22#8)) :
    exec i s = .next (rangeCommand (fun b e => seq (cmdBytes [c, b, e])) s) := by
  rcases hi with ⟨rfl, rfl⟩ | ⟨rfl, rfl⟩ <;> rfl

theorem rangeCommand_of_large {s : State} (send : Byte → Byte → BusProc) (h : ¬ (s.u16 0 ≤ 0xFF ∧ s.u16 1 ≤ 0xFF)) :
    rangeCommand send s = s.finish .invalidArgument := by
  rw [rangeCommand, if_neg h, ite_self]

/-- A range command whose operands fit a byte sends three bytes (41_display.md R172, R173). -/
theorem rangeCommand_sends {s : State} (c : Byte) (hvalid : s.disp.valid = true) (hmode : s.busMode = true)
    (hfits : s.u16 0 ≤ 0xFF ∧ s.u16 1 ≤ 0xFF) :
    ∃ evs answers st,
      SentBy s.disp.conf.addr (cmdWrites s.params [c, s.arg0.extractLsb' 0 8, s.arg1.extractLsb' 0 8]) evs st ∧
      rangeCommand (fun b e => seq (cmdBytes [c, b, e])) s =
        (s.afterEvents (evs ++ [.stop]) answers).finish (busCode st) := by
  rw [rangeCommand, if_pos hvalid, if_pos hfits]
  exact finishBus_seq hmode (sends_cmdBytes _ _ rfl)

/-! ## Sequences in order -/

theorem sentSequences_nil (addr : BusAddr) : SentSequences addr [] [] .ok := ⟨rfl, rfl⟩

/-- One sequence and its stop. -/
theorem sentSequences_singleton {addr : BusAddr} {ws : List (List Byte)} {evs : List BusEvent} {st : BusStatus}
    (h : SentBy addr ws evs st) : SentSequences addr [ws] (evs ++ [.stop]) st := by
  refine ⟨evs, st, h, ?_⟩
  by_cases hst : st = .ok
  · exact .inr ⟨hst, [], ⟨rfl, hst⟩, rfl⟩
  · exact .inl ⟨hst, rfl, rfl⟩

theorem sentSequences_append_ok {addr : BusAddr} {gs gs' : List (List (List Byte))} {evs evs' : List BusEvent}
    {st : BusStatus} (h : SentSequences addr gs evs .ok) (h' : SentSequences addr gs' evs' st) :
    SentSequences addr (gs ++ gs') (evs ++ evs') st := by
  induction gs generalizing evs with
  | nil =>
    obtain ⟨rfl, -⟩ := h
    exact h'
  | cons g gs ih =>
    obtain ⟨e, st', hsent, ⟨hne, hst, -⟩ | ⟨hst, rest, hrest, rfl⟩⟩ := h
    · exact absurd hst.symm hne
    · exact ⟨e, st', hsent, .inr ⟨hst, rest ++ evs', ih hrest, by simp⟩⟩

theorem sentSequences_append_fail {addr : BusAddr} {gs : List (List (List Byte))} {evs : List BusEvent}
    {st : BusStatus} (h : SentSequences addr gs evs st) (hne : st ≠ .ok) (gs' : List (List (List Byte))) :
    SentSequences addr (gs ++ gs') evs st := by
  induction gs generalizing evs with
  | nil =>
    obtain ⟨-, hst⟩ := h
    exact absurd hst hne
  | cons g gs ih =>
    obtain ⟨e, st', hsent, hfail | ⟨hst, rest, hrest, rfl⟩⟩ := h
    · exact ⟨e, st', hsent, .inl hfail⟩
    · exact ⟨e, st', hsent, .inr ⟨hst, rest, ih hrest, rfl⟩⟩

/-- What a procedure of outermost wraps has done in state `s`: it has sent the planned sequences up to the first that
failed, and changed nothing else. -/
def SendsSequences (s : State) (gs : List (List (List Byte))) (r : State × BusStatus) : Prop :=
  ∃ evs answers, SentSequences s.disp.conf.addr gs evs r.2 ∧ r.1 = s.afterEvents evs answers

theorem sendsSequences_nothing (s : State) : SendsSequences s [] (nothingSent s) :=
  ⟨[], s.busAnswers, sentSequences_nil _, rfl⟩

theorem sendsSequences_seq {s : State} {body : BusProc} {ws : List (List Byte)} (hmode : s.busMode = true)
    (hbody : Sends (s.setBusMode false) ws (body (s.setBusMode false))) : SendsSequences s [ws] (seq body s) := by
  obtain ⟨evs, answers, hsent, hst⟩ := seq_outer hmode hbody
  exact ⟨evs ++ [.stop], answers, sentSequences_singleton hsent, hst⟩

theorem sendsSequences_andThen {s : State} {p q : BusProc} {gs gs' : List (List (List Byte))}
    (hp : SendsSequences s gs (p s))
    (hq : ∀ evs answers, SendsSequences (s.afterEvents evs answers) gs' (q (s.afterEvents evs answers))) :
    SendsSequences s (gs ++ gs') (andThen p q s) := by
  obtain ⟨evs, answers, hsent, hst⟩ := hp
  rcases andThen_cases p q s with ⟨hne, hrun⟩ | ⟨hok, hrun⟩ <;> rw [hrun]
  · exact ⟨evs, answers, sentSequences_append_fail hsent hne gs', hst⟩
  · obtain ⟨evs', answers', hsent', hst'⟩ := hq evs answers
    rw [hok] at hsent
    rw [hst]
    exact ⟨evs ++ evs', answers', sentSequences_append_ok hsent hsent', by rw [hst']; simp [State.afterEvents]⟩

/-! ## DISP_INIT -/

/-- Steps (1) to (12) are the 25 payloads of the table (41_display.md R164, R165). -/
theorem initPayloads_eq (d : Disp) :
    initHead d ++ ([0x22#8, 0x00#8, BitVec.ofNat 8 (d.pages - 1)] ++
      ([0x21#8, 0x00#8, BitVec.ofNat 8 (panelWidth - 1)] ++ initTail d)) = initPayloads d.conf.geom d.conf.cpsrc := by
  obtain ⟨valid, addr, geom, cpsrc, fliph, flipv⟩ := d
  cases geom <;> cases cpsrc <;>
    simp [initHead, initTail, initPayloads, Disp.height, Disp.pages, panelPages, panelHeight, panelWidth, bitsPerTile]

theorem sendsSequences_initSequence {s : State} (hmode : s.busMode = true) (d : Disp) :
    SendsSequences s [cmdWrites s.params (initPayloads d.conf.geom d.conf.cpsrc)] (initSequence d s) := by
  refine sendsSequences_seq hmode ?_
  rw [← initPayloads_eq d]
  simp only [cmdWrites_append]
  refine sends_andThen (sends_cmdBytes _ _ rfl) fun _ _ => ?_
  refine sends_andThen (sends_setPageRange rfl _ _) fun _ _ => ?_
  exact sends_andThen (sends_setColRange rfl _ _) fun _ _ => sends_cmdBytes _ _ rfl

theorem sendsSequences_flipSequence {s : State} (hmode : s.busMode = true) (wanted : Bool) (b : Byte) :
    SendsSequences s (if wanted then [cmdWrites s.params [b]] else []) (flipSequence wanted b s) := by
  cases wanted with
  | false => exact sendsSequences_nothing s
  | true => exact sendsSequences_seq hmode (sends_cmdBytes _ _ rfl)

theorem sendsSequences_initAll {s : State} (hmode : s.busMode = true) (d : Disp) :
    SendsSequences s (initSequences s.params d.conf) (initAll d s) :=
  sendsSequences_andThen (sendsSequences_initSequence hmode d) fun evs answers =>
    sendsSequences_andThen (sendsSequences_flipSequence (s := s.afterEvents evs answers) hmode _ _) fun _ _ =>
      sendsSequences_flipSequence (s := (s.afterEvents evs answers).afterEvents _ _) hmode _ _

/-- DISP_INIT latches CFG and sends its sequences (41_display.md R164). -/
theorem execDispInit_sends {s : State} (hmode : s.busMode = true) :
    ∃ evs answers st, SentSequences s.cfg.addr (initSequences s.params s.cfg) evs st ∧
      exec .dispInit s = .next (((s.setDisp ⟨true, s.cfg⟩).afterEvents evs answers).finish (busCode st)) := by
  obtain ⟨evs, answers, hsent, hst⟩ :=
    sendsSequences_initAll (s := s.setDisp ⟨true, s.cfg⟩) hmode ⟨true, s.cfg⟩
  exact ⟨evs, answers, _, hsent, by rw [← hst]; rfl⟩

/-! ## A full update -/

theorem sends_sendTiles (k i : Nat) {s : State} (h : s.busMode = false) :
    Sends s (dataWrites s.params ((List.range' i k).map s.tile)) (sendTiles k i s) := by
  induction k generalizing i s with
  | zero => exact sends_nothing s
  | succ k ih => exact sends_andThen (ws := [_]) (sends_busWrite s h _) fun _ _ => ih _ h

/-- The body of a full update sends the whole frame (41_display.md R169). -/
theorem sends_updateAllBody {s : State} (h : s.busMode = false) : Sends s (fullWrites s) (updateAllBody s s) := by
  have hwrites : fullWrites s =
      cmdWrites s.params [0x22#8, 0x00#8, BitVec.ofNat 8 (s.fb.pages - 1)] ++
        (cmdWrites s.params [0x21#8, 0x00#8, BitVec.ofNat 8 (panelWidth - 1)] ++
          dataWrites s.params ((List.range' 0 s.fb.ntiles).map s.tile)) := by
    rw [← List.range_eq_range']
    rfl
  rw [hwrites]
  refine sends_andThen (sends_setPageRange h _ _) fun evs answers => ?_
  refine sends_andThen (sends_setColRange (s := s.afterEvents evs answers) h _ _) fun evs' answers' => ?_
  exact sends_sendTiles _ _ (s := (s.afterEvents evs answers).afterEvents evs' answers') h

/-- `UpdateAll`: the frame and a stop, then the dirty bits cleared if every write returned OK (41_display.md R169). -/
theorem updateAll_sends {s : State} (hmode : s.busMode = true) :
    ∃ evs answers st, SentBy s.disp.conf.addr (fullWrites s) evs st ∧
      updateAll s =
        (if st = .ok then (s.afterEvents (evs ++ [.stop]) answers).allClean
         else s.afterEvents (evs ++ [.stop]) answers).finish (busCode st) := by
  have hbody : Sends (s.setBusMode false) (fullWrites s) (updateAllBody s (s.setBusMode false)) :=
    sends_updateAllBody (s := s.setBusMode false) rfl
  obtain ⟨evs, answers, hsent, hst⟩ := seq_outer hmode hbody
  refine ⟨evs, answers, _, hsent, ?_⟩
  rcases andThen_cases (seq (updateAllBody s)) (fun t => (t.allClean, .ok)) s with ⟨hne, hrun⟩ | ⟨hok, hrun⟩
  · rw [updateAll, finishBus, hrun, if_neg hne, hst]
  · rw [updateAll, finishBus, hrun, if_pos hok, hst, hok]

end Sys2Proof.Machine
end

section
/-! SUPPORT. The statements about the display's configuration and its addresses, and about the full update
(41_display.md R160-R169, R172, R173). -/

namespace Sys2Proof.Machine

open Sys2Proof

/-- Settles O31: the checks every display command but DISP_INIT begins with. -/
theorem displayCommandsNeedAConfiguration : Obligations.DisplayCommandsNeedAConfiguration := by
  unfold Obligations.DisplayCommandsNeedAConfiguration
  exact fun i s => ⟨exec_without_display, fun hi hno => exec_update_not_ready hi (not_updateReady (.inr hno))⟩

/-- Settles O33: the command is one wrap around one command byte. -/
theorem dispOnSendsOneByte : Obligations.DispOnSendsOneByte := by
  unfold Obligations.DispOnSendsOneByte
  refine ⟨decode_encode (.dispOn false), decode_encode (.dispOn true), fun s v =>
    ⟨exec_without_display rfl, fun hvalid hmode => ?_⟩⟩
  obtain ⟨evs, answers, st, hsent, hexec⟩ := execDispOn_sends hvalid hmode v
  obtain rfl := sentBy_singleton hsent
  refine ⟨_, st, hexec, by simp, rfl, rfl, hmode, ?_⟩
  simp [State.afterEvents, keepsOperands, keepsFramebuffer, keepsStacks, keepsOutside]

/-- Settles O34: the command is one wrap around three command bytes. -/
theorem rangeCommandsSendThreeBytes : Obligations.RangeCommandsSendThreeBytes := by
  unfold Obligations.RangeCommandsSendThreeBytes
  refine ⟨decode_encode .dispSetColRange, decode_encode .dispSetPageRange, fun s i c hi => ?_⟩
  have hdisplay : needsDisplay i = true := by rcases hi with ⟨rfl, -⟩ | ⟨rfl, -⟩ <;> rfl
  refine ⟨exec_without_display hdisplay, fun hlarge => ?_, fun hvalid hfits₀ hfits₁ hmode => ?_⟩ <;>
    rw [execRange_eq s hi]
  · have hnot : ¬ (s.u16 0 ≤ 0xFF ∧ s.u16 1 ≤ 0xFF) := fun ⟨h₀, h₁⟩ =>
      hlarge.elim (Nat.not_lt.2 h₀) (Nat.not_lt.2 h₁)
    rw [rangeCommand_of_large _ hnot]
    rfl
  · obtain ⟨evs, answers, st, hsent, hrange⟩ := rangeCommand_sends c hvalid hmode ⟨hfits₀, hfits₁⟩
    rw [hrange]
    refine ⟨_, evs, st, rfl, hsent, by simp, rfl, rfl, hmode, ?_⟩
    simp [State.afterEvents, keepsOperands, keepsFramebuffer, keepsStacks, keepsOutside]

/-- Settles O32: three procedures in order, each of whole sequences. -/
theorem dispInitSendsItsSequences : Obligations.DispInitSendsItsSequences := by
  unfold Obligations.DispInitSendsItsSequences
  refine ⟨decode_encode .dispInit, fun s hmode => ?_⟩
  obtain ⟨evs, answers, st, hsent, hexec⟩ := execDispInit_sends hmode
  refine ⟨_, evs, st, hexec, hsent, by simp, rfl, rfl, rfl, hmode, ?_⟩
  simp [State.afterEvents, keepsOperands, keepsFramebuffer, keepsStacks, keepsOutside]

/-- Settles O36: the body sends the planned writes, and `State.allClean` follows exactly when all returned OK. -/
theorem updateAllSendsTheWholeFrame : Obligations.UpdateAllSendsTheWholeFrame := by
  unfold Obligations.UpdateAllSendsTheWholeFrame
  refine ⟨decode_encode .dispUpdateAll, fun s hno => exec_update_not_ready rfl (not_updateReady hno),
    fun s hmode hvalid halloc hcolumns hheight => ?_⟩
  have hready := (updateReady_iff s).2 ⟨hvalid, halloc, hcolumns, hheight⟩
  obtain ⟨evs, answers, st, hsent, hupdate⟩ := updateAll_sends hmode
  refine ⟨_, evs, st, if_pos hready, hsent, ?_⟩
  rw [hupdate]
  by_cases hok : st = .ok
  · rw [if_pos hok]
    refine ⟨by simp [State.allClean], rfl, rfl, hmode, fun _ => ⟨rfl, fun _ _ => rfl⟩, fun hne => absurd hok hne, ?_⟩
    simp [State.allClean, State.afterEvents, keepsOperands, keepsStacks, keepsOutside]
  · rw [if_neg hok]
    refine ⟨by simp, rfl, rfl, hmode, fun h => absurd h hok, fun _ => ⟨rfl, rfl⟩, ?_⟩
    simp [State.afterEvents, keepsOperands, keepsStacks, keepsOutside]

end Sys2Proof.Machine
end

section
/-! SUPPORT. The differential update: which writes it sends, and that exactly the tiles whose data write was answered OK
end clean (41_display.md R170, R171). -/

namespace Sys2Proof.Machine

open Sys2Proof

/-! ## The dirty tiles and cleaning them -/

theorem mem_dirtyTiles (s : State) (i : Nat) : i ∈ s.dirtyTiles ↔ i < s.fb.ntiles ∧ s.isDirty i = true := by
  simp [State.dirtyTiles]

theorem dirtyTiles_length (s : State) : s.dirtyTiles.length = s.dirtyTotal := List.countP_eq_length_filter.symm

/-- FB.count is the number of dirty tiles (10_state.md R34). -/
theorem State.Inv.count_eq {s : State} (h : s.Inv) (halloc : s.fb.alloc = true) :
    s.fb.count = s.dirtyTiles.length := by
  obtain ⟨-, ⟨-, hsome⟩, -⟩ := h
  obtain ⟨-, -, -, -, -, -, -, hcount⟩ := hsome halloc
  rw [hcount, dirtyTiles_length]

/-- The state with the tiles listed marked clean, one after the other: what a differential update does to it apart from
the bus (41_display.md R170). -/
def State.cleanTiles (s : State) (l : List Nat) : State :=
  (s.setDirtyRam (l.foldl (fun m i => m.write i 0#1) s.dirty)).setCount (s.fb.count - l.length)

theorem cleanTiles_nil (s : State) : s.cleanTiles [] = s := rfl

theorem cleanTiles_cons (s : State) (i : Nat) (l : List Nat) :
    s.cleanTiles (i :: l) = (s.cleanTile i).cleanTiles l := by
  have hcount : s.fb.count - (l.length + 1) = s.fb.count - 1 - l.length := by omega
  simp only [State.cleanTiles, List.length_cons, hcount]
  rfl

theorem cleanTile_isDirty (s : State) (i j : Nat) :
    (s.cleanTile i).isDirty j = if j = i then false else s.isDirty j :=
  setDirty_isDirty s i j false

theorem cleanTiles_isDirty (s : State) (l : List Nat) (j : Nat) :
    (s.cleanTiles l).isDirty j = true ↔ s.isDirty j = true ∧ j ∉ l := by
  induction l generalizing s with
  | nil => simp [cleanTiles_nil]
  | cons i l ih =>
    rw [cleanTiles_cons, ih, cleanTile_isDirty]
    by_cases hj : j = i <;> simp [hj]

/-! ## Counting the data writes answered OK -/

/-- A write whose first byte is the data type byte (20_memory.md R76). -/
def isDataWrite (p : Params) : List Byte → Bool
  | t :: _ => t == p.typeData
  | [] => false

theorem okDataWrites_append (p : Params) (evs evs' : List BusEvent) :
    okDataWrites p (evs ++ evs') = okDataWrites p evs + okDataWrites p evs' := List.countP_append

theorem okDataWrites_map_okWrite (p : Params) (a : BusAddr) (ws : List (List Byte)) :
    okDataWrites p (ws.map (okWrite a)) = ws.countP (isDataWrite p) := by
  rw [okDataWrites, List.countP_map]
  refine List.countP_congr fun w _ => ?_
  cases w <;> simp [okWrite, isDataWrite]

theorem okDataWrites_failed (p : Params) (a : BusAddr) (w : List Byte) (held : Bool) {st : BusStatus} (hne : st ≠ .ok) :
    okDataWrites p [.write a w held st] = 0 := by
  cases w <;> simp [okDataWrites, hne]

theorem countP_isDataWrite_cmdWrites {p : Params} (h : p.typeData ≠ p.typeCmd) (bs : List Byte) :
    (cmdWrites p bs).countP (isDataWrite p) = 0 := by
  refine List.countP_eq_zero.2 fun w hw => ?_
  obtain ⟨b, -, rfl⟩ := List.mem_map.1 hw
  simp [isDataWrite, h.symm]

/-- Writes of which only the last is a data write: if one of them failed, no data write was answered OK. -/
theorem okDataWrites_of_last {p : Params} {a : BusAddr} {ws : List (List Byte)} {w : List Byte}
    {evs : List BusEvent} {st : BusStatus} (hws : ws.countP (isDataWrite p) = 0) (hw : isDataWrite p w = true)
    (h : SentBy a (ws ++ [w]) evs st) : okDataWrites p evs = if st = .ok then 1 else 0 := by
  rcases h with ⟨hok, rfl⟩ | ⟨hne, sent, w', rest, heq, rfl⟩
  · rw [okDataWrites_map_okWrite, List.countP_append, hws, if_pos hok]
    simp [hw]
  · have hsub : List.Sublist sent ws := by
      rcases List.append_eq_append_iff.1 heq with ⟨tail, rfl, htail⟩ | ⟨tail, rfl, -⟩
      · cases tail with
        | nil => simp
        | cons _ _ => simp at htail
      · exact List.sublist_append_left sent tail
    have hsent : sent.countP (isDataWrite p) = 0 := Nat.le_zero.1 (hws ▸ hsub.countP_le)
    rw [okDataWrites_append, okDataWrites_map_okWrite, hsent, okDataWrites_failed p a w' true hne, if_neg hne]

/-! ## One dirty tile -/

theorem follows_iff (prev : Option Nat) (i : Nat) : prev.map (· + 1) = some i ↔ prev = some (i - 1) ∧ 0 < i := by
  cases prev with
  | none => simp
  | some j =>
    simp only [Option.map_some, Option.some.injEq]
    omega

/-- The address pair before a tile and its data byte (41_display.md R170). -/
theorem sends_dirtyTile {s : State} (h : s.busMode = false) (prev : Option Nat) (i : Nat) :
    Sends s (tileWrites s prev i)
      (andThen (addressTile prev i s.fb.pages) (fun t => dataByte (t.tile i) t) s) := by
  refine sends_andThen ?_ fun evs answers => sends_busWrite (s.afterEvents evs answers) h _
  rw [addressTile]
  by_cases hfollows : prev = some (i - 1) ∧ 0 < i
  · rw [if_pos hfollows, if_pos ((follows_iff prev i).2 hfollows)]
    exact sends_nothing s
  · rw [if_neg hfollows, if_neg (mt (follows_iff prev i).1 hfollows)]
    exact sends_andThen (ws := cmdWrites s.params [_, _, _]) (sends_setPageRange h _ _) fun evs answers =>
      sends_setColRange (s := s.afterEvents evs answers) h _ _

/-- A dirty tile is sent, and marked clean exactly if every write of it returned OK. -/
theorem sendDirtyTile_sends {s : State} (h : s.busMode = false) (prev : Option Nat) (i : Nat) :
    ∃ evs answers st, SentBy s.disp.conf.addr (tileWrites s prev i) evs st ∧
      sendDirtyTile prev i s =
        (if st = .ok then (s.cleanTile i).afterEvents evs answers else s.afterEvents evs answers, st) := by
  obtain ⟨evs, answers, hsent, hst⟩ := sends_dirtyTile h prev i
  refine ⟨evs, answers, _, hsent, ?_⟩
  rw [sendDirtyTile, andThen_assoc]
  rcases andThen_cases (andThen (addressTile prev i s.fb.pages) fun t => dataByte (t.tile i) t)
    (fun t => (t.cleanTile i, .ok)) s with ⟨hne, hrun⟩ | ⟨hok, hrun⟩
  · rw [hrun, if_neg hne, ← hst]
  · rw [hrun, if_pos hok, hok, hst]
    rfl

theorem okDataWrites_tileWrites {s : State} (hparams : s.params.typeData ≠ s.params.typeCmd) {prev : Option Nat}
    {i : Nat} {a : BusAddr} {evs : List BusEvent} {st : BusStatus} (h : SentBy a (tileWrites s prev i) evs st) :
    okDataWrites s.params evs = if st = .ok then 1 else 0 := by
  refine okDataWrites_of_last ?_ (by simp [isDataWrite]) h
  split
  · rfl
  · exact countP_isDataWrite_cmdWrites hparams _

/-! ## The walk -/

/-- What a walk over the tiles of which `l` are dirty has done in state `s`: it has sent the writes planned for `l` up
to the first that failed, and the tiles whose data write was answered OK, the first ones of `l`, are clean. -/
def DiffSends (s : State) (prev : Option Nat) (l : List Nat) (r : State × BusStatus) : Prop :=
  ∃ evs answers, SentBy s.disp.conf.addr (diffWrites s prev l) evs r.2 ∧
    (r.2 = .ok → okDataWrites s.params evs = l.length) ∧
    r.1 = (s.cleanTiles (l.take (okDataWrites s.params evs))).afterEvents evs answers

theorem diffSends_nil (s : State) (prev : Option Nat) : DiffSends s prev [] (s, .ok) :=
  ⟨[], s.busAnswers, .inl ⟨rfl, rfl⟩, fun _ => rfl, rfl⟩

theorem diffWrites_congr {s t : State} (h : tileWrites t = tileWrites s) (prev : Option Nat) (l : List Nat) :
    diffWrites t prev l = diffWrites s prev l := by
  induction l generalizing prev with
  | nil => rfl
  | cons i l ih => simp only [diffWrites, h, ih]

/-- The first dirty tile was not sent: it and the others stay dirty (41_display.md R171). -/
theorem diffSends_cons_fail {s : State} (hparams : s.params.typeData ≠ s.params.typeCmd) {prev : Option Nat} {i : Nat}
    {evs : List BusEvent} {answers : List BusStatus} {st : BusStatus}
    (hsent : SentBy s.disp.conf.addr (tileWrites s prev i) evs st) (hne : st ≠ .ok) (l : List Nat) :
    DiffSends s prev (i :: l) (s.afterEvents evs answers, st) := by
  refine ⟨evs, answers, sentBy_append_fail hsent hne _, fun hok => absurd hok hne, ?_⟩
  rw [okDataWrites_tileWrites hparams hsent, if_neg hne]
  rfl

/-- The first dirty tile was sent and is clean, and the walk goes on from there. -/
theorem diffSends_cons_ok {s : State} (hparams : s.params.typeData ≠ s.params.typeCmd) {prev : Option Nat} {i : Nat}
    {evs : List BusEvent} {answers : List BusStatus} (hsent : SentBy s.disp.conf.addr (tileWrites s prev i) evs .ok)
    {l : List Nat} {r : State × BusStatus}
    (hrest : DiffSends ((s.cleanTile i).afterEvents evs answers) (some i) l r) : DiffSends s prev (i :: l) r := by
  obtain ⟨evs', answers', hsent', hcount, hst⟩ := hrest
  have hone : okDataWrites s.params (evs ++ evs') = okDataWrites s.params evs' + 1 := by
    rw [okDataWrites_append, okDataWrites_tileWrites hparams hsent, if_pos rfl, Nat.add_comm]
  refine ⟨evs ++ evs', answers', ?_, fun hok => ?_, ?_⟩
  · rw [diffWrites_congr (t := (s.cleanTile i).afterEvents evs answers) (s := s) rfl] at hsent'
    exact sentBy_append_ok hsent hsent'
  · rw [hone, List.length_cons]
    exact congrArg (· + 1) (hcount hok)
  · rw [hone, List.take_succ_cons, cleanTiles_cons, hst]
    simp [State.afterEvents, State.cleanTiles, State.cleanTile, State.setDirty, State.setDirtyRam, State.setCount]

/-- A dirty tile and then the rest of the walk. -/
theorem diffSends_andThen {s : State} (hmode : s.busMode = false) (hparams : s.params.typeData ≠ s.params.typeCmd)
    {prev : Option Nat} {i : Nat} {l : List Nat} {next : BusProc}
    (hnext : ∀ evs answers, DiffSends ((s.cleanTile i).afterEvents evs answers) (some i) l
      (next ((s.cleanTile i).afterEvents evs answers))) :
    DiffSends s prev (i :: l) (andThen (sendDirtyTile prev i) next s) := by
  obtain ⟨evs, answers, st, hsent, hsend⟩ := sendDirtyTile_sends hmode prev i
  rcases andThen_cases (sendDirtyTile prev i) next s with ⟨hst, hrun⟩ | ⟨hst, hrun⟩ <;> rw [hrun] <;>
    rw [hsend] at hst ⊢
  · rw [if_neg hst]
    exact diffSends_cons_fail hparams hsent hst l
  · obtain rfl : st = .ok := hst
    exact diffSends_cons_ok hparams hsent (hnext evs answers)

theorem diffWalk_succ_clean {s : State} {i : Nat} (h : s.isDirty i = false) (k : Nat) (prev : Option Nat) :
    diffWalk (k + 1) i prev s = diffWalk k (i + 1) prev s :=
  if_neg (by simp [h])

theorem diffWalk_succ_dirty {s : State} {i : Nat} (h : s.isDirty i = true) (k : Nat) (prev : Option Nat) :
    diffWalk (k + 1) i prev s =
      andThen (sendDirtyTile prev i) (fun t => if t.fb.count = 0 then (t, .ok) else diffWalk k (i + 1) (some i) t) s :=
  if_pos h

/-- Cleaning a tile leaves those above it as dirty as they were. -/
theorem filter_isDirty_cleanTile (s : State) (i k : Nat) :
    (List.range' (i + 1) k).filter (s.cleanTile i).isDirty = (List.range' (i + 1) k).filter s.isDirty := by
  refine List.filter_congr fun j hj => ?_
  obtain ⟨hlow, -⟩ := List.mem_range'_1.1 hj
  rw [cleanTile_isDirty, if_neg (by omega)]

/-- The walk over the tiles `i .. i+k-1` sends their dirty ones; its early end at FB.count = 0 leaves none unsent
(41_display.md R170). -/
theorem diffSends_diffWalk (k i : Nat) (prev : Option Nat) {s : State} (hmode : s.busMode = false)
    (hparams : s.params.typeData ≠ s.params.typeCmd)
    (hcount : s.fb.count = ((List.range' i k).filter s.isDirty).length) :
    DiffSends s prev ((List.range' i k).filter s.isDirty) (diffWalk k i prev s) := by
  induction k generalizing i prev s with
  | zero => exact diffSends_nil s prev
  | succ k ih =>
    rw [List.range'_succ] at hcount ⊢
    cases hdirty : s.isDirty i with
    | false =>
      rw [List.filter_cons_of_neg (by simp [hdirty])] at hcount ⊢
      rw [diffWalk_succ_clean hdirty]
      exact ih _ _ hmode hparams hcount
    | true =>
      rw [List.filter_cons_of_pos hdirty] at hcount ⊢
      rw [diffWalk_succ_dirty hdirty]
      refine diffSends_andThen hmode hparams fun evs answers => ?_
      have hrest : s.fb.count - 1 = ((List.range' (i + 1) k).filter s.isDirty).length := by simp [hcount]
      split
      · rename_i hzero
        rw [List.eq_nil_of_length_eq_zero (hrest.symm.trans hzero)]
        exact diffSends_nil _ _
      · rw [← filter_isDirty_cleanTile] at hrest ⊢
        exact ih (i + 1) (some i) (s := (s.cleanTile i).afterEvents evs answers) hmode hparams hrest

/-- An outermost wrap around work that ends in events: one stop, with BUSMODE restored (20_memory.md R74). -/
theorem seq_outer_eq {s t : State} {body : BusProc} {evs : List BusEvent} {answers : List BusStatus} {st : BusStatus}
    (hs : s.busMode = true) (ht : t.busMode = true)
    (hbody : body (s.setBusMode false) = ((t.setBusMode false).afterEvents evs answers, st)) :
    seq body s = (t.afterEvents (evs ++ [.stop]) answers, st) := by
  simp only [seq, seqExit, hbody, hs, if_true, busStop]
  cases t
  simp_all [State.setBusMode, State.afterEvents, State.logEvent]

/-- `UpdateDiff`: the dirty runs and a stop, nothing without a dirty tile; the tiles sent are clean
(41_display.md R170). -/
theorem updateDiff_sends {s : State} (h : s.Inv) (halloc : s.fb.alloc = true) :
    ∃ evs answers st, SentBy s.disp.conf.addr (diffWrites s none s.dirtyTiles) evs st ∧
      (st = .ok → okDataWrites s.params evs = s.fb.count) ∧
      updateDiff s =
        ((s.cleanTiles (s.dirtyTiles.take (okDataWrites s.params evs))).afterEvents
          (evs ++ if s.fb.count = 0 then [] else [.stop]) answers).finish (busCode st) := by
  have hcount := h.count_eq halloc
  have hmode := h.busMode
  by_cases hzero : s.fb.count = 0
  · have hclean : s.dirtyTiles = [] := List.eq_nil_of_length_eq_zero (hcount.symm.trans hzero)
    refine ⟨[], s.busAnswers, .ok, .inl ⟨rfl, by rw [hclean]; rfl⟩, fun _ => hzero.symm, ?_⟩
    rw [updateDiff, if_pos hzero, if_pos hzero, hclean]
    rfl
  · have hwalk := diffSends_diffWalk s.fb.ntiles 0 none (s := s.setBusMode false) rfl h.typeData_ne
      (by rw [← List.range_eq_range']; exact hcount)
    rw [← List.range_eq_range'] at hwalk
    obtain ⟨evs, answers, hsent, hall, hst⟩ := hwalk
    rw [diffWrites_congr (t := s.setBusMode false) (s := s) rfl] at hsent
    refine ⟨evs, answers, _, hsent, fun hok => (hall hok).trans hcount.symm, ?_⟩
    rw [updateDiff, if_neg hzero, if_neg hzero, finishBus,
      seq_outer_eq (t := s.cleanTiles _) hmode hmode (Prod.ext hst rfl)]
    rfl

end Sys2Proof.Machine
end

section
/-! SUPPORT. How many writes an update plans (41_display.md R174). -/

namespace Sys2Proof.Machine

open Sys2Proof

theorem fullWrites_length (s : State) : (fullWrites s).length = 6 + s.fb.ntiles := by
  simp only [fullWrites, cmdWrites, dataWrites, State.frame, List.length_append, List.length_map, List.length_range]
  rfl

theorem tileWrites_length (s : State) (prev : Option Nat) (i : Nat) :
    (tileWrites s prev i).length = (if prev = some (i - 1) ∧ 0 < i then 0 else 6) + 1 := by
  rw [tileWrites, List.length_append]
  split <;> rfl

/-- The dirty tile `i` begins a run: it does not follow a dirty tile (41_display.md R174). -/
def State.beginsRun (s : State) (i : Nat) : Bool := i == 0 || !s.isDirty (i - 1)

/-- Six address bytes a run and one data byte a tile.  `prev` is the tile sent last: it lies below `i`, and it is
`i - 1` exactly if that tile is dirty. -/
theorem diffWrites_length_range (s : State) (k i : Nat) (prev : Option Nat) (hbelow : ∀ j, prev = some j → j < i)
    (hprev : prev = some (i - 1) ∧ 0 < i ↔ s.beginsRun i = false) :
    (diffWrites s prev ((List.range' i k).filter s.isDirty)).length =
      6 * ((List.range' i k).filter s.isDirty).countP s.beginsRun + ((List.range' i k).filter s.isDirty).length := by
  induction k generalizing i prev with
  | zero => rfl
  | succ k ih =>
    rw [List.range'_succ]
    cases hdirty : s.isDirty i with
    | false =>
      rw [List.filter_cons_of_neg (by simp [hdirty])]
      refine ih (i + 1) prev (fun j hj => Nat.lt_succ_of_lt (hbelow j hj)) ?_
      have hnot : prev ≠ some i := fun hi => Nat.lt_irrefl i (hbelow i hi)
      simp [State.beginsRun, hdirty, hnot]
    | true =>
      rw [List.filter_cons_of_pos hdirty, diffWrites, List.length_append, tileWrites_length,
        ih (i + 1) (some i) (by simp) (by simp [State.beginsRun, hdirty])]
      simp only [hprev, List.countP_cons, List.length_cons]
      cases s.beginsRun i <;> simp <;> omega

theorem diffWrites_length (s : State) :
    (diffWrites s none s.dirtyTiles).length = 6 * s.dirtyRuns + s.dirtyTiles.length := by
  rw [State.dirtyRuns, State.dirtyTiles, List.range_eq_range']
  exact diffWrites_length_range s s.fb.ntiles 0 none (by simp) (by simp [State.beginsRun])

end Sys2Proof.Machine
end

section
/-! SUPPORT. The statements about the update commands (41_display.md R160, R167-R171, R174). -/

namespace Sys2Proof.Machine

open Sys2Proof

/-- Of a list without repeats, what is not among the first `n` is among the rest. -/
theorem mem_drop_iff_not_mem_take {l : List Nat} (hl : l.Nodup) (n i : Nat) :
    i ∈ l.drop n ↔ i ∈ l ∧ i ∉ l.take n := by
  constructor
  · exact fun h => ⟨List.mem_of_mem_drop h, fun h' => List.disjoint_take_drop hl le_rfl h' h⟩
  · rintro ⟨h, hnot⟩
    rw [← List.take_append_drop n l] at h
    exact (List.mem_append.1 h).resolve_left hnot

/-- Settles O37: the walk sends what is planned for the dirty tiles and cleans the first ones of them,
which are those sent. -/
theorem updateDiffSendsTheDirtyRuns : Obligations.UpdateDiffSendsTheDirtyRuns := by
  unfold Obligations.UpdateDiffSendsTheDirtyRuns
  refine ⟨decode_encode .dispUpdateDiff, fun s hno => exec_update_not_ready rfl (not_updateReady hno),
    fun s h hvalid halloc hcolumns hheight => ?_⟩
  have hready := (updateReady_iff s).2 ⟨hvalid, halloc, hcolumns, hheight⟩
  have hcount := h.count_eq halloc
  have hmode := h.busMode
  obtain ⟨evs, answers, st, hsent, hall, hupdate⟩ := updateDiff_sends h halloc
  refine ⟨_, evs, st, (if_pos hready).trans (congrArg Host.Outcome.next hupdate), hsent, ?_, rfl, rfl, fun i hi => ?_,
    ?_, hall, ?_⟩
  · exact (afterEvents_busLog _ _ answers).trans (List.append_assoc ..).symm
  · have hnodup : s.dirtyTiles.Nodup := List.nodup_range.filter _
    rw [mem_drop_iff_not_mem_take hnodup, mem_dirtyTiles]
    exact (cleanTiles_isDirty s _ i).trans (by simp [hi])
  · have hlength : s.fb.count - (s.dirtyTiles.take (okDataWrites s.params evs)).length =
        s.fb.count - okDataWrites s.params evs := by
      rw [List.length_take, ← hcount]
      omega
    rw [← hlength]
    rfl
  · simp [State.cleanTiles, State.afterEvents, hmode, keepsOperands, keepsStacks, keepsOutside]

/-- DISP_UPDATE of a matching display and framebuffer (41_display.md R167, R168). -/
theorem execDispUpdate_eq {s : State} (hready : s.updateReady = true) :
    exec .dispUpdate s =
      if s.fb.count = 0 then .next (s.finish .ok)
      else if s.dispThresh < s.fb.count then exec .dispUpdateAll s else exec .dispUpdateDiff s := by
  simp only [exec, execDispUpdate, execDispUpdateAll, execDispUpdateDiff, hready, if_true, gt_iff_lt]

/-- Settles O35: the three cases of DISP_UPDATE, the last two by what the full and the differential update leave. -/
theorem dispUpdateChoosesByTheThreshold : Obligations.DispUpdateChoosesByTheThreshold := by
  unfold Obligations.DispUpdateChoosesByTheThreshold
  refine ⟨rfl, rfl, fun s h hvalid halloc hcolumns hheight => ?_⟩
  have hupdate := execDispUpdate_eq ((updateReady_iff s).2 ⟨hvalid, halloc, hcolumns, hheight⟩)
  have hchoice (hpos : 0 < s.fb.count) := hupdate.trans (if_neg (Nat.ne_of_gt hpos))
  refine ⟨fun hzero => hupdate.trans (if_pos hzero), hchoice, fun hpos => ?_⟩
  rw [hchoice hpos]
  change ∃ t evs st, _ ∧ SentBy _ (if s.dispThresh < s.fb.count then _ else _) evs st ∧ _
  by_cases hthresh : s.dispThresh < s.fb.count
  · simp only [if_pos hthresh]
    have hmode := h.busMode
    obtain ⟨-, -, hfull⟩ := updateAllSendsTheWholeFrame
    obtain ⟨t, evs, st, hexec, hsent, hlog, hcode, hbusy, hmode', hok, hfail, htiles, hframe⟩ :=
      hfull s hmode hvalid halloc hcolumns hheight
    refine ⟨t, evs, st, hexec, hsent, hlog, hcode, hbusy, fun hst => ?_, htiles, ?_, hmode', hframe⟩
    · obtain ⟨hfb, hclean⟩ := hok hst
      exact ⟨by rw [hfb], hclean⟩
    · by_cases hst : st = .ok
      · rw [(hok hst).1]
      · rw [(hfail hst).1]
  · simp only [if_neg hthresh]
    obtain ⟨-, -, hdiff⟩ := updateDiffSendsTheDirtyRuns
    obtain ⟨t, evs, st, hexec, hsent, hlog, hcode, hbusy, hdirty, hfb, hall, htiles, hframe⟩ :=
      hdiff s h hvalid halloc hcolumns hheight
    rw [if_neg (Nat.ne_of_gt hpos)] at hlog
    refine ⟨t, evs, st, hexec, hsent, hlog, hcode, hbusy, fun hst => ?_, htiles, by rw [hfb], hframe⟩
    rw [hall hst] at hfb hdirty
    refine ⟨by rw [hfb]; exact Nat.sub_self _, fun i hi => ?_⟩
    have hnot : ¬ t.isDirty i = true := by
      rw [hdirty i hi, h.count_eq halloc, List.drop_length]
      exact List.not_mem_nil
    simpa using hnot

theorem busCode_eq_ok_iff (st : BusStatus) : busCode st = .ok ↔ st = .ok := by
  cases st <;> simp [busCode]

/-- A state that is already finished with the status. -/
theorem finish_eq_self {s : State} {c : Status} (hcode : s.code = c) (hbusy : s.busy = false) : s.finish c = s := by
  subst hcode
  cases s
  simp_all [State.finish]

/-- Settles O38: an update that finished OK leaves FB.count 0, and CODE = OK and BUSY = 0 as the second would. -/
theorem secondUpdateIsANoOp : Obligations.SecondUpdateIsANoOp := by
  unfold Obligations.SecondUpdateIsANoOp
  intro s t h hvalid halloc hcolumns hheight hexec hcode
  obtain ⟨-, -, hupdate⟩ := dispUpdateChoosesByTheThreshold
  obtain ⟨hnone, -, hsome⟩ := hupdate s h hvalid halloc hcolumns hheight
  obtain ⟨hdisp, hfb, hbusy⟩ : t.disp = s.disp ∧ t.fb = { s.fb with count := 0 } ∧ t.busy = false := by
    rcases Nat.eq_zero_or_pos s.fb.count with hzero | hpos
    · rw [hnone hzero] at hexec
      cases hexec
      exact ⟨rfl, by rw [← hzero], rfl⟩
    · obtain ⟨u, evs, st, hexec', -, -, hcode', hbusy, hok, -, hfb, -, hdisp, -⟩ := hsome hpos
      obtain rfl : t = u := Host.Outcome.next.inj (hexec.symm.trans hexec')
      obtain ⟨hzero, -⟩ := hok ((busCode_eq_ok_iff st).1 (hcode'.symm.trans hcode))
      exact ⟨hdisp, by rw [hfb, hzero], hbusy⟩
  have hready : t.updateReady = true := by
    rw [updateReady_iff, hdisp, hfb]
    exact ⟨hvalid, halloc, hcolumns, hheight⟩
  rw [execDispUpdate_eq hready, if_pos (by rw [hfb]), finish_eq_self hcode hbusy]

/-- A sequence answered OK throughout: as many events as writes planned, each a held write. -/
theorem sentBy_ok_events {addr : BusAddr} {ws : List (List Byte)} {evs : List BusEvent} (h : SentBy addr ws evs .ok) :
    evs.length = ws.length ∧ ∀ e ∈ evs, ∃ a bs, e = .write a bs true .ok := by
  obtain ⟨-, rfl⟩ | ⟨hne, -⟩ := h
  · refine ⟨List.length_map _, fun e he => ?_⟩
    obtain ⟨w, -, rfl⟩ := List.mem_map.1 he
    exact ⟨addr, w, rfl⟩
  · exact absurd rfl hne

/-- Settles O39: an update that finished OK has sent all the writes planned for it. -/
theorem updateWriteCounts : Obligations.UpdateWriteCounts := by
  unfold Obligations.UpdateWriteCounts
  intro i s t h hvalid halloc hcolumns hheight hexec hcode
  refine ⟨?_, ?_⟩ <;> rintro rfl
  · have ⟨_, _, _, _, hmode, _, _⟩ := h
    obtain ⟨-, -, hfull⟩ := updateAllSendsTheWholeFrame
    obtain ⟨u, evs, st, hexec', hsent, hlog, hcode', -⟩ := hfull s hmode hvalid halloc hcolumns hheight
    obtain rfl : t = u := Host.Outcome.next.inj (hexec.symm.trans hexec')
    obtain rfl := (busCode_eq_ok_iff st).1 (hcode'.symm.trans hcode)
    obtain ⟨hlength, hwrites⟩ := sentBy_ok_events hsent
    exact ⟨evs, hlog, hlength.trans (fullWrites_length s), hwrites⟩
  · obtain ⟨-, -, hdiff⟩ := updateDiffSendsTheDirtyRuns
    obtain ⟨u, evs, st, hexec', hsent, hlog, hcode', -⟩ := hdiff s h hvalid halloc hcolumns hheight
    obtain rfl : t = u := Host.Outcome.next.inj (hexec.symm.trans hexec')
    obtain rfl := (busCode_eq_ok_iff st).1 (hcode'.symm.trans hcode)
    obtain ⟨hlength, hwrites⟩ := sentBy_ok_events hsent
    have hcount := h.count_eq halloc
    refine ⟨evs, hlog, ?_, hcount, hwrites⟩
    rw [hlength, diffWrites_length, hcount]

end Sys2Proof.Machine
end

section
/-! SUPPORT. What the sequences of the display commands do to panel_state as it is read from the bus event log
(41_display.md R161, log entry 16). -/

namespace Sys2Proof.Machine

open Sys2Proof

/-! ## Reading a sequence -/

/-- The log read on from between two sequences, in panel state `q`. -/
def scanFrom (p : Params) (q : PanelState) (evs : List BusEvent) : PanelScan := evs.foldl (scanEvent p) ⟨q, []⟩

theorem scanFrom_append {p : Params} {q q' : PanelState} {evs : List BusEvent} (h : scanFrom p q evs = ⟨q', []⟩)
    (evs' : List BusEvent) : scanFrom p q (evs ++ evs') = scanFrom p q' evs' := by
  rw [scanFrom, List.foldl_append, ← scanFrom, h, scanFrom]

/-- A write as panel_state sees it. -/
def sentByte (p : Params) (st : BusStatus) : List Byte → SentByte
  | [t, b] => ⟨if t = p.typeCmd then some b else none, st == .ok⟩
  | _ => ⟨none, st == .ok⟩

theorem scanEvent_write (p : Params) (c : PanelScan) (a : BusAddr) (w : List Byte) (held : Bool) (st : BusStatus) :
    scanEvent p c (.write a w held st) = { c with open_ := c.open_ ++ [sentByte p st w] } :=
  match w with
  | [] | [_] | [_, _] | _ :: _ :: _ :: _ => rfl

theorem sentByte_command (p : Params) (st : BusStatus) (c : Byte) :
    sentByte p st [p.typeCmd, c] = ⟨some c, st == .ok⟩ := by
  simp [sentByte]

theorem sentByte_delivered (p : Params) (st : BusStatus) (w : List Byte) : (sentByte p st w).delivered = (st == .ok) :=
  match w with
  | [] | [_] | [_, _] | _ :: _ :: _ :: _ => rfl

theorem foldl_scanEvent_okWrites (p : Params) (a : BusAddr) (ws : List (List Byte)) (c : PanelScan) :
    (ws.map (okWrite a)).foldl (scanEvent p) c = { c with open_ := c.open_ ++ ws.map (sentByte p .ok) } := by
  induction ws generalizing c with
  | nil => simp
  | cons w ws ih => simp [okWrite, scanEvent_write, ih]

/-- A sequence and its stop, read from between two sequences: the effect of the writes it sent. -/
theorem scanFrom_sentBy (p : Params) {a : BusAddr} {ws : List (List Byte)} {evs : List BusEvent} {st : BusStatus}
    (h : SentBy a ws evs st) (q : PanelState) :
    (st = .ok ∧ scanFrom p q (evs ++ [.stop]) = ⟨sequenceEffect q (ws.map (sentByte p .ok)), []⟩) ∨
    (st ≠ .ok ∧ ∃ sent w rest, ws = sent ++ w :: rest ∧
      scanFrom p q (evs ++ [.stop]) = ⟨sequenceEffect q (sent.map (sentByte p .ok) ++ [sentByte p st w]), []⟩) := by
  rcases h with ⟨rfl, rfl⟩ | ⟨hne, sent, w, rest, rfl, rfl⟩
  · refine .inl ⟨rfl, ?_⟩
    rw [scanFrom, List.foldl_append, foldl_scanEvent_okWrites]
    rfl
  · refine .inr ⟨hne, sent, w, rest, rfl, ?_⟩
    rw [scanFrom, List.foldl_append, List.foldl_append, foldl_scanEvent_okWrites]
    simp only [List.foldl_cons, List.foldl_nil, scanEvent_write]
    rfl

/-! ## Sequences by their first command byte -/

/-- The first bytes of the sequences that bear on panel_state (41_display.md R161, R164, R166). -/
def panelBytes : List Byte := [0xAE#8, 0xAF#8, 0xC8#8, 0xA1#8]

theorem sequenceEffect_other {c : Byte} (hc : c ∉ panelBytes) (q : PanelState) (d : Bool) (g : List SentByte) :
    sequenceEffect q (⟨some c, d⟩ :: g) = q := by
  simp only [panelBytes, List.mem_cons, List.not_mem_nil, or_false] at hc
  simp [sequenceEffect, hc]

theorem sequenceEffect_failed {c : Byte} (hc : c ∈ panelBytes) (q : PanelState) {d : Bool} {g : List SentByte}
    (hfailed : (⟨some c, d⟩ :: g : List SentByte).all (·.delivered) = false) :
    sequenceEffect q (⟨some c, d⟩ :: g) = .unknown := by
  simp only [panelBytes, List.mem_cons, List.not_mem_nil, or_false] at hc
  simp only [sequenceEffect, Option.some.injEq, hc, if_true, hfailed, Bool.false_eq_true, if_false]

/-- A sequence that begins with the command byte `c`, and its stop: if it failed, not all of its writes arrived. -/
theorem scanFrom_command {p : Params} {a : BusAddr} {c : Byte} {ws : List (List Byte)} {evs : List BusEvent}
    {st : BusStatus} (h : SentBy a ([p.typeCmd, c] :: ws) evs st) (q : PanelState) :
    ∃ d g, scanFrom p q (evs ++ [.stop]) = ⟨sequenceEffect q (⟨some c, d⟩ :: g), []⟩ ∧
      (st ≠ .ok → (⟨some c, d⟩ :: g : List SentByte).all (·.delivered) = false) := by
  rcases scanFrom_sentBy p h q with ⟨hok, hscan⟩ | ⟨hne, sent, w, rest, hws, hscan⟩ <;> rw [hscan]
  · rw [List.map_cons, sentByte_command]
    exact ⟨_, _, rfl, fun hne => absurd hok hne⟩
  · have hfailed : (sent.map (sentByte p .ok) ++ [sentByte p st w]).all (·.delivered) = false := by
      simp [sentByte_delivered, hne]
    cases sent with
    | nil =>
      obtain ⟨rfl, -⟩ := List.cons.inj hws
      rw [List.map_nil, List.nil_append, sentByte_command] at hfailed ⊢
      exact ⟨_, _, rfl, fun _ => hfailed⟩
    | cons w' sent =>
      obtain ⟨rfl, -⟩ := List.cons.inj hws
      rw [List.map_cons, List.cons_append, sentByte_command] at hfailed ⊢
      exact ⟨_, _, rfl, fun _ => hfailed⟩

/-- A sequence that begins with another command byte leaves panel_state. -/
theorem scanFrom_other {p : Params} {a : BusAddr} {c : Byte} (hc : c ∉ panelBytes) {ws : List (List Byte)}
    {evs : List BusEvent} {st : BusStatus} (h : SentBy a ([p.typeCmd, c] :: ws) evs st) (q : PanelState) :
    scanFrom p q (evs ++ [.stop]) = ⟨q, []⟩ := by
  obtain ⟨d, g, hscan, -⟩ := scanFrom_command h q
  rw [hscan, sequenceEffect_other hc]

/-- A sequence that bears on panel_state and failed leaves it UNKNOWN. -/
theorem scanFrom_failed {p : Params} {a : BusAddr} {c : Byte} (hc : c ∈ panelBytes) {ws : List (List Byte)}
    {evs : List BusEvent} {st : BusStatus} (h : SentBy a ([p.typeCmd, c] :: ws) evs st) (hne : st ≠ .ok)
    (q : PanelState) : scanFrom p q (evs ++ [.stop]) = ⟨.unknown, []⟩ := by
  obtain ⟨d, g, hscan, hfailed⟩ := scanFrom_command h q
  rw [hscan, sequenceEffect_failed hc q (hfailed hne)]

/-- A sequence of command bytes that all arrived. -/
theorem scanFrom_delivered {p : Params} {a : BusAddr} {bs : List Byte} {evs : List BusEvent}
    (h : SentBy a (cmdWrites p bs) evs .ok) (q : PanelState) :
    scanFrom p q (evs ++ [.stop]) = ⟨sequenceEffect q (bs.map fun b => ⟨some b, true⟩), []⟩ := by
  rcases scanFrom_sentBy p h q with ⟨-, hscan⟩ | ⟨hne, -⟩
  · rw [hscan, cmdWrites, List.map_map]
    congr 2
    exact List.map_congr_left fun b _ => sentByte_command p .ok b
  · exact absurd rfl hne

/-! ## The sequences of DISP_INIT -/

/-- A panel that DISP_INIT has brought to DISPLAY_OFF stays there through its flips, or is UNKNOWN after one that
failed. -/
theorem scanFrom_flips {p : Params} {a : BusAddr} {gs : List (List (List Byte))}
    (hgs : ∀ g ∈ gs, g = cmdWrites p [0xC8#8] ∨ g = cmdWrites p [0xA1#8]) {evs : List BusEvent} {st : BusStatus}
    (h : SentSequences a gs evs st) : scanFrom p .off evs = ⟨if st = .ok then .off else .unknown, []⟩ := by
  induction gs generalizing evs with
  | nil =>
    obtain ⟨rfl, rfl⟩ := h
    rfl
  | cons g gs ih =>
    obtain ⟨b, hb, rfl⟩ : ∃ b, (b = 0xC8#8 ∨ b = 0xA1#8) ∧ g = cmdWrites p [b] := by
      rcases hgs g (List.mem_cons_self ..) with hg | hg
      · exact ⟨_, .inl rfl, hg⟩
      · exact ⟨_, .inr rfl, hg⟩
    have hpanel : b ∈ panelBytes := by rcases hb with rfl | rfl <;> decide
    obtain ⟨e, st', hsent, ⟨hne, rfl, rfl⟩ | ⟨rfl, rest, hrest, rfl⟩⟩ := h
    · rw [if_neg hne]
      exact scanFrom_failed hpanel hsent hne _
    · have hoff : scanFrom p .off (e ++ [.stop]) = ⟨.off, []⟩ := by
        rw [scanFrom_delivered hsent]
        rcases hb with rfl | rfl <;> rfl
      rw [List.append_cons, scanFrom_append hoff]
      exact ih (fun g' hg' => hgs g' (List.mem_cons_of_mem _ hg')) hrest

theorem initPayloads_head (geom cpsrc : Bool) : ∃ b bs, initPayloads geom cpsrc = 0xAE#8 :: b :: bs := by
  cases geom <;> cases cpsrc <;> exact ⟨_, _, rfl⟩

theorem eq_of_mem_wanted {α : Type} {wanted : Bool} {g g' : α} (h : g ∈ if wanted then [g'] else []) : g = g' := by
  cases wanted with
  | false => cases h
  | true => exact List.mem_singleton.1 h

/-- DISP_INIT leaves DISPLAY_OFF when all of its sequences arrived, else UNKNOWN (41_display.md R161). -/
theorem scanFrom_initSequences {p : Params} {a : BusAddr} {c : DispConf} {evs : List BusEvent} {st : BusStatus}
    (h : SentSequences a (initSequences p c) evs st) (q : PanelState) :
    scanFrom p q evs = ⟨if st = .ok then .off else .unknown, []⟩ := by
  obtain ⟨b, bs, hpayloads⟩ := initPayloads_head c.geom c.cpsrc
  rw [initSequences, hpayloads, List.singleton_append] at h
  obtain ⟨e, st', hsent, ⟨hne, rfl, rfl⟩ | ⟨rfl, rest, hrest, rfl⟩⟩ := h
  · rw [if_neg hne]
    exact scanFrom_failed (by decide) hsent hne q
  · have hoff : scanFrom p q (e ++ [.stop]) = ⟨.off, []⟩ := by
      rw [scanFrom_delivered hsent]
      simp [sequenceEffect]
    rw [List.append_cons, scanFrom_append hoff]
    refine scanFrom_flips (fun g hg => ?_) hrest
    exact (List.mem_append.1 hg).imp eq_of_mem_wanted eq_of_mem_wanted

/-! ## panel_state over a command -/

theorem panelState_congr {s t : State} (hparams : t.params = s.params) (hlog : t.busLogRev = s.busLogRev) :
    panelState t = panelState s := by
  simp only [panelState, State.busLog, hparams, hlog]

/-- `State.PanelInv` speaks of the parameters, the bus event log and DISP only. -/
theorem State.PanelInv.congr {s t : State} (h : s.PanelInv) (hparams : t.params = s.params)
    (hlog : t.busLogRev = s.busLogRev) (hdisp : t.disp = s.disp) : t.PanelInv := by
  simpa only [State.PanelInv, panelState, State.busLog, hparams, hlog, hdisp] using h

/-- The log of a command, read on from that of the state before. -/
theorem scanLog_of_busLog {s t : State} {evs : List BusEvent} (h : s.PanelInv) (hparams : t.params = s.params)
    (hlog : t.busLog = s.busLog ++ evs) : scanLog t.params t.busLog = scanFrom s.params (panelState s) evs := by
  obtain ⟨hopen, -⟩ := h
  rw [hparams, hlog, scanLog, List.foldl_append, ← scanLog, scanFrom, panelState, ← hopen]

theorem isDisplay_of_needsDisplay {i : Instr} (h : needsDisplay i = true) : isDisplay i = true := by
  cases i <;> simp_all [needsDisplay, isDisplay]

/-- A command outside the display family does not touch the bus. -/
theorem CommandWork.busLogRev {s t : State} {i : Instr} {c : Status} (h : CommandWork s i t c)
    (hi : isDisplay i = false) : t.params = s.params ∧ t.busLogRev = s.busLogRev := by
  cases h with
  | pixels _ ht _ | fill ht =>
    obtain ⟨⟨_, _, _, _, rfl⟩, -⟩ := ht
    exact ⟨rfl, rfl⟩
  | dispInit ht => cases hi
  | display hneeds ht => simp [isDisplay_of_needsDisplay hneeds] at hi
  | idle | fbCreate | fbClear | fbDestroy | fbGetPixel | stack | stkPop => exact ⟨rfl, rfl⟩

/-- What the log of a command that leaves panel_state reads as: the same state, between two sequences. -/
def PanelKept (s t : State) : Prop := scanLog t.params t.busLog = ⟨panelState s, []⟩

theorem panelKept_of_busLogRev {s t : State} (h : s.PanelInv) (hparams : t.params = s.params)
    (hlog : t.busLogRev = s.busLogRev) : PanelKept s t :=
  scanLog_of_busLog (evs := []) h hparams (by rw [State.busLog, hlog, List.append_nil]; rfl)

/-- A command that did no more than write STATUS. -/
theorem panelKept_finish {s : State} (h : s.PanelInv) (c : Status) : PanelKept s (s.finish c) :=
  panelKept_of_busLogRev h rfl rfl

/-- A command of one sequence whose first byte does not bear on panel_state. -/
theorem panelKept_of_sentBy {s t : State} {c : Byte} (hc : c ∉ panelBytes) {ws : List (List Byte)}
    {evs : List BusEvent} {st : BusStatus} (h : s.PanelInv) (hparams : t.params = s.params)
    (hsent : SentBy s.disp.conf.addr ([s.params.typeCmd, c] :: ws) evs st)
    (hlog : t.busLog = s.busLog ++ (evs ++ [.stop])) : PanelKept s t :=
  (scanLog_of_busLog h hparams hlog).trans (scanFrom_other hc hsent _)

/-! ### The commands one by one -/

theorem panelKept_of_not_display {s t : State} {i : Instr} (h : s.PanelInv) (hi : isDisplay i = false)
    (hexec : exec i s = .next t) : PanelKept s t := by
  obtain ⟨u, c, rfl, hwork⟩ := commandWork_of_exec hexec
  obtain ⟨hparams, hlog⟩ := hwork.busLogRev hi
  exact panelKept_of_busLogRev h hparams hlog

theorem panelKept_rangeCommand {s : State} (h : s.PanelInv) (hmode : s.busMode = true) {c : Byte}
    (hc : c ∉ panelBytes) : PanelKept s (rangeCommand (fun b e => seq (cmdBytes [c, b, e])) s) := by
  by_cases hvalid : s.disp.valid = true
  · by_cases hfits : s.u16 0 ≤ 0xFF ∧ s.u16 1 ≤ 0xFF
    · obtain ⟨evs, answers, st, hsent, hrange⟩ := rangeCommand_sends c hvalid hmode hfits
      rw [hrange]
      exact panelKept_of_sentBy hc h rfl hsent (afterEvents_busLog _ _ answers)
    · rw [rangeCommand_of_large _ hfits]
      exact panelKept_finish h _
  · rw [rangeCommand, if_neg hvalid]
    exact panelKept_finish h _

theorem panelKept_updateAll {s : State} (h : s.PanelInv) (hmode : s.busMode = true) : PanelKept s (updateAll s) := by
  obtain ⟨evs, answers, st, hsent, hupdate⟩ := updateAll_sends hmode
  rw [hupdate]
  refine panelKept_of_sentBy (c := 0x22#8) (by decide) h ?_ hsent ?_ <;> split
  · rfl
  · rfl
  · exact afterEvents_busLog _ _ answers
  · exact afterEvents_busLog _ _ answers

/-- The first dirty tile starts a run, whose first byte is that of the page range. -/
theorem diffWrites_none_cons (s : State) (i : Nat) (l : List Nat) :
    ∃ ws, diffWrites s none (i :: l) = [s.params.typeCmd, 0x22#8] :: ws := ⟨_, rfl⟩

theorem panelKept_updateDiff {s : State} (h : s.PanelInv) (hinv : s.Inv) (halloc : s.fb.alloc = true) :
    PanelKept s (updateDiff s) := by
  obtain ⟨evs, answers, st, hsent, -, hupdate⟩ := updateDiff_sends hinv halloc
  by_cases hzero : s.fb.count = 0
  · rw [updateDiff, if_pos hzero]
    exact panelKept_finish h _
  · rw [if_neg hzero] at hupdate
    rw [hupdate]
    cases hdirty : s.dirtyTiles with
    | nil => exact absurd (by rw [hinv.count_eq halloc, hdirty]; rfl) hzero
    | cons i l =>
      obtain ⟨ws, hws⟩ := diffWrites_none_cons s i l
      rw [hdirty, hws] at hsent
      exact panelKept_of_sentBy (by decide) h rfl hsent (afterEvents_busLog _ _ answers)

theorem panelKept_of_update {s t : State} {i : Instr} (h : s.PanelInv) (hinv : s.Inv) (hi : isUpdate i = true)
    (hexec : exec i s = .next t) : PanelKept s t := by
  by_cases hready : s.updateReady = true
  · obtain ⟨-, halloc, -⟩ := (updateReady_iff s).1 hready
    have hall : exec .dispUpdateAll s = .next (updateAll s) := if_pos hready
    have hdiff : exec .dispUpdateDiff s = .next (updateDiff s) := if_pos hready
    have hcases : t = s.finish .ok ∨ t = updateAll s ∨ t = updateDiff s := by
      cases i with
      | dispUpdate =>
        rw [execDispUpdate_eq hready, hall, hdiff] at hexec
        split_ifs at hexec <;> cases hexec <;> simp
      | dispUpdateAll => exact .inr (.inl (Host.Outcome.next.inj (hexec.symm.trans hall)))
      | dispUpdateDiff => exact .inr (.inr (Host.Outcome.next.inj (hexec.symm.trans hdiff)))
      | _ => cases hi
    rcases hcases with rfl | rfl | rfl
    · exact panelKept_finish h _
    · exact panelKept_updateAll h hinv.busMode
    · exact panelKept_updateDiff h hinv halloc
  · rw [exec_update_not_ready hi hready] at hexec
    cases hexec
    exact panelKept_finish h _

theorem scanLog_dispInit {s t : State} (h : s.PanelInv) (hmode : s.busMode = true)
    (hexec : exec .dispInit s = .next t) :
    scanLog t.params t.busLog = ⟨panelAfter (panelState s) .dispInit t.code, []⟩ := by
  obtain ⟨evs, answers, st, hsent, hexec'⟩ := execDispInit_sends hmode
  obtain rfl := Host.Outcome.next.inj (hexec.symm.trans hexec')
  refine Eq.trans (scanLog_of_busLog h rfl (afterEvents_busLog _ _ answers)) ?_
  simp only [scanFrom_initSequences hsent, panelAfter, finish_code, busCode_eq_ok_iff]

theorem panelAfter_dispOn_failed {p : PanelState} (hp : p ≠ .uninitialized) (v : Bool) {c : Status} (hc : c ≠ .ok) :
    panelAfter p (.dispOn v) c = .unknown := by
  cases p with
  | uninitialized => exact absurd rfl hp
  | off | on => exact if_neg hc
  | unknown => rfl

theorem scanLog_dispOn {s t : State} {v : Bool} (h : s.PanelInv) (hmode : s.busMode = true)
    (hexec : exec (.dispOn v) s = .next t) :
    scanLog t.params t.busLog = ⟨panelAfter (panelState s) (.dispOn v) t.code, []⟩ := by
  have ⟨_, huninit⟩ := h
  cases hvalid : s.disp.valid with
  | false =>
    rw [exec_without_display rfl hvalid] at hexec
    cases hexec
    exact (panelKept_finish h _).trans (by rw [huninit.1 hvalid]; rfl)
  | true =>
    have hinit : panelState s ≠ .uninitialized := fun hq => by simp [huninit.2 hq] at hvalid
    obtain ⟨evs, answers, st, hsent, hexec'⟩ := execDispOn_sends hvalid hmode v
    obtain rfl := Host.Outcome.next.inj (hexec.symm.trans hexec')
    refine Eq.trans (scanLog_of_busLog h rfl (afterEvents_busLog _ _ answers)) ?_
    rw [finish_code]
    by_cases hst : st = .ok
    · subst hst
      rw [scanFrom_delivered hsent]
      cases v <;> rfl
    · rw [scanFrom_failed (by cases v <;> decide) hsent hst, panelAfter_dispOn_failed hinit]
      simpa only [ne_eq, busCode_eq_ok_iff] using hst

/-- Every command leaves a log that reads as the table says, between two sequences (41_display.md R161). -/
theorem scanLog_exec {s t : State} {i : Instr} (hinv : s.Inv) (h : s.PanelInv) (hexec : exec i s = .next t) :
    scanLog t.params t.busLog = ⟨panelAfter (panelState s) i t.code, []⟩ := by
  have hmode := hinv.busMode
  cases i with
  | dispInit => exact scanLog_dispInit h hmode hexec
  | dispOn v => exact scanLog_dispOn h hmode hexec
  | dispUpdate | dispUpdateAll | dispUpdateDiff => exact panelKept_of_update h hinv rfl hexec
  | dispSetColRange | dispSetPageRange =>
    cases hexec
    exact panelKept_rangeCommand h hmode (by decide)
  | fbCreate | fbClear | fbSetPixel _ | fbGetPixel | fbDestroy | drawLine _ | drawRect _ | drawCircle _
  | drawEllipseRect _ | drawFill _ _ | stkAlloc | stkPush | stkPop | stkDealloc =>
    exact panelKept_of_not_display h rfl hexec

end Sys2Proof.Machine
end

section
/-! SUPPORT. The statements about panel_state (41_display.md R161). -/

namespace Sys2Proof.Machine

open Sys2Proof

/-- In the table UNINITIALIZED is left by DISP_INIT only, and never entered (41_display.md R161). -/
theorem panelAfter_eq_uninitialized_iff {i : Instr} (hi : i ≠ .dispInit) (p : PanelState) (c : Status) :
    panelAfter p i c = .uninitialized ↔ p = .uninitialized := by
  cases i with
  | dispInit => exact absurd rfl hi
  | dispOn v => cases p <;> cases v <;> simp [panelAfter] <;> split <;> simp
  | _ => rfl

/-- A command keeps what panel_state is read by: DISP_INIT alone latches a configuration, and alone leaves
UNINITIALIZED. -/
theorem exec_panelInv {s t : State} {i : Instr} (hinv : s.Inv) (h : s.PanelInv) (hexec : exec i s = .next t) :
    t.PanelInv := by
  have hscan := scanLog_exec hinv h hexec
  have hstate : panelState t = panelAfter (panelState s) i t.code := congrArg PanelScan.state hscan
  obtain ⟨hinit, hother⟩ := onlyDispInitWritesTheConfiguration i s t hexec
  refine ⟨congrArg PanelScan.open_ hscan, ?_⟩
  rw [hstate]
  by_cases hi : i = .dispInit
  · rw [hinit hi, hi, panelAfter]
    split <;> simp
  · obtain ⟨-, huninit⟩ := h
    rw [hother hi, panelAfter_eq_uninitialized_iff hi, huninit]

/-- Settles O40: the log each command leaves reads as the table says. -/
theorem panelStateFollowsItsTable : Obligations.PanelStateFollowsItsTable := by
  unfold Obligations.PanelStateFollowsItsTable
  intro i s t hinv h hexec
  exact ⟨congrArg PanelScan.state (scanLog_exec hinv h hexec), exec_panelInv hinv h hexec⟩

/-- What panel_state and `State.PanelInv` speak of. -/
def SamePanel (s t : State) : Prop := t.params = s.params ∧ t.busLogRev = s.busLogRev ∧ t.disp = s.disp

theorem SamePanel.kept {s t : State} (hsame : SamePanel s t) (h : s.PanelInv) :
    t.PanelInv ∧ panelState t = panelState s := by
  obtain ⟨hparams, hlog, hdisp⟩ := hsame
  exact ⟨h.congr hparams hlog hdisp, panelState_congr hparams hlog⟩

/-- A host action that is not refused resets the machine or leaves panel_state alone. -/
theorem hostStep_samePanel {e : HostEvent} {s t : State} (hstep : hostStep e s = .next t) :
    SamePanel s t ∨ (e.action = .reset ∧ t = s.applyReset) := by
  rcases hostStep_next hstep with ⟨off, -, -, rfl⟩ | ⟨off, v, -, -, rfl⟩ | ⟨k, -, rfl⟩ | ⟨hreset, -, rfl⟩
  · obtain ⟨_, _, hread⟩ := hostRead_frame s off
    rw [hread]
    exact .inl ⟨rfl, rfl, rfl⟩
  · obtain ⟨_, _, _, _, _, _, _, hwrite⟩ := hostWritten_hostWrite s off v
    rw [hwrite]
    exact .inl ⟨rfl, rfl, rfl⟩
  · obtain ⟨_, _, hpoll⟩ := pollStatus_frame s k
    rw [hpoll]
    exact .inl ⟨rfl, rfl, rfl⟩
  · exact .inr ⟨hreset, rfl⟩

theorem applyReset_panelInv (s : State) : s.applyReset.PanelInv := ⟨rfl, fun _ => rfl, fun _ => rfl⟩

/-- Settles O59: a step is a host action, a command or nothing; only a command and the reset input touch the log. -/
theorem everyStepKeepsThePanelInvariant : Obligations.EveryStepKeepsThePanelInvariant := by
  unfold Obligations.EveryStepKeepsThePanelInvariant
  intro s t hinv h hstep
  rcases step_cases s with ⟨e, u, hturn, heq⟩ | ⟨-, hbusy, heq⟩ | ⟨-, -, heq⟩ <;> rw [heq] at hstep
  · obtain ⟨rest, hpending, -, rfl⟩ := hostTurn_eq_some.1 hturn
    rcases hostStep_samePanel hstep with hsame | ⟨hreset, rfl⟩
    · obtain ⟨hkept, hstate⟩ := SamePanel.kept (s := s) hsame h
      exact ⟨hkept, .inl hstate⟩
    · exact ⟨applyReset_panelInv _, .inr (.inr ⟨e, rest, hpending, hreset, rfl⟩)⟩
  · rcases runCommand_cases s with ⟨i, hdecode, hrun⟩ | ⟨_, -, hrun⟩ <;> rw [hrun] at hstep
    · obtain ⟨hstate, hkept⟩ := panelStateFollowsItsTable i s t hinv h hstep
      exact ⟨hkept, .inr (.inl ⟨i, hbusy, hdecode, hstate⟩)⟩
    · cases hstep
      exact ⟨h.congr rfl rfl rfl, .inl rfl⟩
  · cases hstep
    exact ⟨h, .inl rfl⟩

end Sys2Proof.Machine
end

section
/-! SUPPORT. What the reference panel has become after a stream of command and data bytes (20_memory.md R86-R89). -/

namespace Sys2Proof.Machine

open Sys2Proof

/-! ## A stream of writes that all arrived -/

theorem panelRun_append (ps : Params) (a : BusAddr) (l k : List (BusEvent × Bool)) (p : Panel) :
    panelRun ps a (l ++ k) p = panelRun ps a k (panelRun ps a l p) :=
  panelModelRun_append _ l k p

theorem panelRun_cmdWrites (ps : Params) (a : BusAddr) (d : Bool) (bs : List Byte) (p : Panel) :
    panelRun ps a (((cmdWrites ps bs).map (okWrite a)).map fun e => (e, d)) p = bs.foldl panelParse p := by
  induction bs generalizing p with
  | nil => rfl
  | cons b bs ih => exact (congrArg _ (panelEvent_command ps a d true p b)).trans (ih _)

theorem panelRun_dataWrites {ps : Params} (hne : ps.typeData ≠ ps.typeCmd) (a : BusAddr) (d : Bool) (bs : List Byte)
    (p : Panel) :
    panelRun ps a (((dataWrites ps bs).map (okWrite a)).map fun e => (e, d)) p = bs.foldl panelData p := by
  induction bs generalizing p with
  | nil => rfl
  | cons b bs ih => exact (congrArg _ (panelEvent_data ps a d true p b hne)).trans (ih _)

/-! ## Data bytes in horizontal mode -/

/-- The panel is in horizontal mode over the pages `0 .. pages-1` and all columns, and its pointers stand at GDDRAM byte
`n`, the next of the stream (20_memory.md R88). -/
structure Panel.StreamsAt (p : Panel) (pages n : Nat) : Prop where
  horizontal : p.amode = 0
  colStart : p.colStart = 0
  colEnd : p.colEnd = 127
  pageEnd : p.pageEnd.toNat + 1 = pages
  index : n < 128 * pages → p.index = n

/-- A data byte moves the pointers to the next GDDRAM byte. -/
theorem Panel.StreamsAt.panelData {p : Panel} {pages n : Nat} (h : p.StreamsAt pages n) (hn : n < 128 * pages)
    (b : Byte) : (panelData p b).StreamsAt pages (n + 1) := by
  obtain ⟨hmode, hcolStart, hcolEnd, hpageEnd, hindex⟩ := h
  refine ⟨hmode, hcolStart, hcolEnd, hpageEnd, fun hnext => ?_⟩
  have hindex := hindex hn
  have hpage := p.pageEnd.isLt
  have hcol := p.colPtr.isLt
  simp only [Panel.index] at hindex
  simp only [Panel.index, panelData_colPtr, panelData_pagePtr, p.advance_horizontal hmode, hcolEnd, hcolStart]
  split
  · rename_i hlast
    have hlast : p.colPtr.toNat = 127 := by rw [hlast]; rfl
    have hmore : p.pagePtr ≠ p.pageEnd := fun he => by rw [he] at hindex; omega
    have hpagePtr : (p.pagePtr + 1).toNat = p.pagePtr.toNat + 1 := by
      rw [BitVec.toNat_add]
      exact Nat.mod_eq_of_lt (by simp; omega)
    simp only [if_neg hmore, hpagePtr, show (0 : BitVec 7).toNat = 0 from rfl]
    omega
  · rename_i hmore
    have hmore : p.colPtr.toNat ≠ 127 := fun he => hmore (BitVec.eq_of_toNat_eq he)
    have hcolPtr : (p.colPtr + 1).toNat = p.colPtr.toNat + 1 := by
      rw [BitVec.toNat_add]
      exact Nat.mod_eq_of_lt (by simp; omega)
    simp only [hcolPtr]
    omega

/-- The GDDRAM bytes before the stream's place stay. -/
theorem Panel.StreamsAt.foldl_below {p : Panel} {pages n : Nat} (h : p.StreamsAt pages n) {l : List Byte}
    (hfits : n + l.length ≤ 128 * pages) {j : Nat} (hj : j < n) :
    (l.foldl Machine.panelData p).gddram[j]? = p.gddram[j]? := by
  induction l generalizing p n with
  | nil => rfl
  | cons b l ih =>
    rw [List.length_cons] at hfits
    have hn : n < 128 * pages := by omega
    rw [List.foldl_cons, ih (h.panelData hn b) (by omega) (by omega), panelData_gddram, h.index hn,
      Vector.getElem?_setIfInBounds_ne (by omega)]

/-- The stream is in the GDDRAM, byte for byte from its place on. -/
theorem Panel.StreamsAt.foldl_stream {p : Panel} {pages n : Nat} (h : p.StreamsAt pages n) {l : List Byte}
    (hfits : n + l.length ≤ 128 * pages) {k : Nat} (hk : k < l.length) :
    (l.foldl Machine.panelData p).gddram[n + k]? = l[k]? := by
  induction l generalizing p n k with
  | nil => cases hk
  | cons b l ih =>
    rw [List.length_cons] at hfits hk
    have hn : n < 128 * pages := by omega
    have hnext := h.panelData hn b
    cases k with
    | zero =>
      have hlt : n < 1024 := h.index hn ▸ p.index_lt
      rw [List.foldl_cons, Nat.add_zero, hnext.foldl_below (by omega) (by omega), panelData_gddram, h.index hn,
        Vector.getElem?_setIfInBounds_self_of_lt hlt]
      rfl
    | succ k =>
      rw [List.foldl_cons, show n + (k + 1) = n + 1 + k by omega, ih hnext (by omega) (by omega)]
      rfl

/-! ## The frame -/

/-- The address commands of a full update put the panel at the start of its frame (20_memory.md R87). -/
theorem streamsAt_zero {p : Panel} (hmode : p.amode = 0) (hpending : p.pending = none) {pages : Nat}
    (hpages : 1 ≤ pages ∧ pages ≤ 8) :
    ([0x22#8, 0#8, BitVec.ofNat 8 (pages - 1), 0x21#8, 0#8, 0x7F#8].foldl panelParse p).StreamsAt pages 0 := by
  have hparse : [0x22#8, 0#8, BitVec.ofNat 8 (pages - 1), 0x21#8, 0#8, 0x7F#8].foldl panelParse p =
      { p with
        pageStart := 0, pageEnd := (BitVec.ofNat 8 (pages - 1)).extractLsb' 0 3, pagePtr := 0
        colStart := 0, colEnd := 127, colPtr := 0, pending := none } := by
    simp [panelParse, panelParams, panelCommand, hpending]
  rw [hparse]
  refine ⟨hmode, rfl, rfl, ?_, fun _ => rfl⟩
  simp only [BitVec.extractLsb'_toNat, BitVec.toNat_ofNat]
  omega

end Sys2Proof.Machine
end

section
/-! SUPPORT. The statement about a full update and the reference panel (41_display.md R174). -/

namespace Sys2Proof.Machine

open Sys2Proof

/-- What the reference panel has become after the events of a full update that finished OK: its address bytes parsed,
then its frame written. -/
theorem panelRun_fullWrites {s : State} (hne : s.params.typeData ≠ s.params.typeCmd) (a : BusAddr) (d : Bool)
    (p : Panel) :
    panelRun s.params a (((fullWrites s).map (okWrite a) ++ [BusEvent.stop]).map fun e => (e, d)) p =
      s.frame.foldl panelData
        ([0x22#8, 0#8, BitVec.ofNat 8 (s.fb.pages - 1), 0x21#8, 0#8, 0x7F#8].foldl panelParse p) := by
  rw [fullWrites, List.map_append, List.map_append, List.map_append, panelRun_append, panelRun_append,
    panelRun_cmdWrites, panelRun_dataWrites hne]
  rfl

/-- The events a full update that finished OK has added to the log. -/
theorem busLog_drop_updateAll {s t : State} (hinv : s.Inv) (hready : s.updateReady = true)
    (hexec : exec .dispUpdateAll s = .next t) (hcode : t.code = .ok) :
    t.busLog.drop s.busLog.length = (fullWrites s).map (okWrite s.disp.conf.addr) ++ [.stop] := by
  obtain ⟨hvalid, halloc, hcolumns, hheight⟩ := (updateReady_iff s).1 hready
  obtain ⟨-, -, hfull⟩ := updateAllSendsTheWholeFrame
  obtain ⟨u, evs, st, hexec', hsent, hlog, hcode', -⟩ := hfull s hinv.busMode hvalid halloc hcolumns hheight
  obtain rfl : t = u := Host.Outcome.next.inj (hexec.symm.trans hexec')
  obtain rfl := (busCode_eq_ok_iff st).1 (hcode'.symm.trans hcode)
  obtain ⟨-, rfl⟩ | ⟨hne, -⟩ := hsent
  · rw [hlog, List.append_assoc, List.drop_left]
  · exact absurd rfl hne

/-- The panel's geometry of the framebuffer in numbers (41_display.md R160, 10_state.md R31). -/
theorem panel_geometry {s : State} (hinv : s.Inv) (hready : s.updateReady = true) :
    (1 ≤ s.fb.pages ∧ s.fb.pages ≤ 8) ∧ s.fb.ntiles = 128 * s.fb.pages ∧ s.fb.height = 8 * s.fb.pages := by
  obtain ⟨-, halloc, hcolumns, hheight⟩ := (updateReady_iff s).1 hready
  obtain ⟨-, ⟨-, hsome⟩, -⟩ := hinv
  obtain ⟨-, -, -, -, hpages, hntiles, -, -⟩ := hsome halloc
  rw [hcolumns] at hntiles
  refine ⟨?_, hntiles, ?_⟩ <;> split at hheight <;> omega

theorem frame_getElem? {s : State} {k : Nat} (hk : k < s.fb.ntiles) : s.frame[k]? = some (s.tile k) := by
  simp [State.frame, hk]

/-- Settles O41: the address commands put the pointers at the first byte, each data byte moves them to the next, and the
bit of a pixel is where both sides of the bus keep it. -/
theorem fullUpdateReachesTheReferencePanel : Obligations.FullUpdateReachesTheReferencePanel := by
  unfold Obligations.FullUpdateReachesTheReferencePanel
  intro s t p arrives hinv hvalid halloc hcolumns hheight hexec hcode hmode hpending
  have hready := (updateReady_iff s).2 ⟨hvalid, halloc, hcolumns, hheight⟩
  obtain ⟨hpages, hntiles, hrows⟩ := panel_geometry hinv hready
  rw [busLog_drop_updateAll hinv hready hexec hcode, panelRun_fullWrites hinv.typeData_ne]
  have hstart := streamsAt_zero hmode hpending hpages
  generalize List.foldl panelParse p _ = q at hstart ⊢
  have hlength : s.frame.length = s.fb.ntiles := by simp [State.frame]
  have hgddram : ∀ pg c, pg < s.fb.pages → c < 128 →
      (s.frame.foldl panelData q).gddram[128 * pg + c]? = some (s.tile (pg * 128 + c)) := by
    intro pg c hpg hc
    have hk : 128 * pg + c < s.fb.ntiles := by omega
    have hstream := hstart.foldl_stream (l := s.frame) (k := 128 * pg + c) (by omega) (by omega)
    rw [Nat.zero_add] at hstream
    rw [hstream, frame_getElem? hk, Nat.mul_comm]
  refine ⟨hgddram, fun c r hc hr => ?_⟩
  have hbounds : s.inBounds c r = true := (inBounds_iff ..).2 (by omega)
  have hindex : s.tileIndex c r = r / 8 * 128 + c := by rw [← hcolumns]; rfl
  rw [pixelGet_of_inBounds hbounds, hindex, Panel.ramPixel, hgddram (r / 8) c (by omega) hc]
  rfl

end Sys2Proof.Machine
end

section
/-! SUPPORT. The statement about what each family of commands leaves to the others (40_framebuffer.md, 42_draw.md R200,
43_fill_stack.md R230, 41_display.md R164-R173). -/

namespace Sys2Proof.Machine

open Sys2Proof

/-- The commands of the host stack (43_fill_stack.md R238-R241). -/
def stackCommands : List Instr := [.stkAlloc, .stkPush, .stkPop, .stkDealloc]

theorem stackCommands_family {i : Instr} (hi : i ∈ stackCommands) :
    isDisplay i = false ∧ needsDisplay i = false ∧ needsFramebuffer i = false := by
  revert i
  decide

theorem mem_stackCommands_of_stack {i : Instr} (hi : i ∈ [.stkAlloc, .stkPush, .stkDealloc]) : i ∈ stackCommands := by
  revert i
  decide

theorem isDisplay_of_needsFramebuffer {i : Instr} (hi : needsFramebuffer i = true) : isDisplay i = false := by
  cases i with
  | dispInit | dispOn _ | dispUpdate | dispUpdateAll | dispUpdateDiff | dispSetColRange | dispSetPageRange => cases hi
  | _ => rfl

theorem PixelWork.keepsBus_stk {s t : State} (h : PixelWork s t) : keepsBus s t ∧ t.stk = s.stk := by
  obtain ⟨⟨_, _, _, _, rfl⟩, -⟩ := h
  exact ⟨⟨rfl, rfl, rfl⟩, rfl⟩

theorem UpdateWork.tiles_stacks {s t : State} (h : UpdateWork s t) :
    t.tiles = s.tiles ∧ t.stk = s.stk ∧ t.fstk = s.fstk := by
  obtain ⟨_, _, ⟨_, _, rfl, -⟩, -⟩ := h
  exact ⟨rfl, rfl, rfl⟩

theorem Traffic.keepsFramebuffer_stacks {s t : State} (h : Traffic s t) : keepsFramebuffer s t ∧ keepsStacks s t := by
  obtain ⟨_, _, rfl, -⟩ := h
  exact ⟨⟨rfl, rfl, rfl⟩, rfl, rfl⟩

/-- Only the display family touches the bus (42_draw.md R200, 43_fill_stack.md R230). -/
theorem CommandWork.keepsBus {s t : State} {i : Instr} {c : Status} (hwork : CommandWork s i t c)
    (hi : isDisplay i = false) : keepsBus s t := by
  cases hwork with
  | pixels _ ht => exact ht.keepsBus_stk.1
  | fill ht => exact ht.keepsBus_stk.1
  | dispInit => cases hi
  | display hneeds => simp [isDisplay_of_needsDisplay hneeds] at hi
  | _ => exact ⟨rfl, rfl, rfl⟩

/-- Only the stack family writes STK (40_framebuffer.md, 42_draw.md R200, 41_display.md R164-R173). -/
theorem CommandWork.stk {s t : State} {i : Instr} {c : Status} (hwork : CommandWork s i t c)
    (hi : i ∉ stackCommands) : t.stk = s.stk := by
  cases hwork with
  | pixels _ ht => exact ht.keepsBus_stk.2
  | fill ht => exact ht.keepsBus_stk.2
  | dispInit ht => exact ht.keepsFramebuffer_stacks.2.1
  | display _ ht => exact ht.tiles_stacks.2.1
  | stack hstack => exact absurd (mem_stackCommands_of_stack hstack) hi
  | stkPop => exact absurd (by decide) hi
  | _ => rfl

/-- The stack family and DISP_INIT leave the framebuffer alone (43_fill_stack.md R230, 41_display.md R164). -/
theorem CommandWork.keepsFramebuffer {s t : State} {i : Instr} {c : Status} (hwork : CommandWork s i t c)
    (hi : i ∈ stackCommands ∨ i = .dispInit) : keepsFramebuffer s t := by
  have ⟨hdisp, hfb⟩ : needsDisplay i = false ∧ needsFramebuffer i = false := by
    rcases hi with hi | rfl
    · exact (stackCommands_family hi).2
    · exact ⟨rfl, rfl⟩
  cases hwork with
  | fbCreate => simp [stackCommands] at hi
  | fbClear | fbDestroy | fbGetPixel | fill => cases hfb
  | pixels hneeds => cases hfb.symm.trans hneeds
  | dispInit ht => exact ht.keepsFramebuffer_stacks.1
  | display hneeds => cases hdisp.symm.trans hneeds
  | idle | stack | stkPop => exact ⟨rfl, rfl, rfl⟩

/-- The display family leaves the tile bytes and the stacks alone (41_display.md R164-R173). -/
theorem CommandWork.tiles_stacks {s t : State} {i : Instr} {c : Status} (hwork : CommandWork s i t c)
    (hi : isDisplay i = true) : t.tiles = s.tiles ∧ t.stk = s.stk ∧ t.fstk = s.fstk := by
  cases hwork with
  | idle => exact ⟨rfl, rfl, rfl⟩
  | pixels hneeds => cases hi.symm.trans (isDisplay_of_needsFramebuffer hneeds)
  | dispInit ht => exact ⟨ht.keepsFramebuffer_stacks.1.2.1, ht.keepsFramebuffer_stacks.2⟩
  | display _ ht => exact ht.tiles_stacks
  | stack hstack => cases hi.symm.trans (stackCommands_family (mem_stackCommands_of_stack hstack)).1
  | _ => cases hi

/-- Settles O22: each clause by the kinds of work a command can do; `finish` writes STATUS only. -/
theorem familiesKeepToTheirOwnState : Obligations.FamiliesKeepToTheirOwnState := by
  unfold Obligations.FamiliesKeepToTheirOwnState
  intro i s t hexec
  obtain ⟨u, c, rfl, hwork⟩ := commandWork_of_exec hexec
  exact ⟨hwork.keepsBus, hwork.stk, hwork.keepsFramebuffer, hwork.tiles_stacks⟩

end Sys2Proof.Machine
end

section
/-! SUPPORT. The line generator and the rectangle (42_draw.md R201, R203).  A line that is higher than it is wide is
the mirror image of one that is not, so the walk's arithmetic is done once, for a line that steps in x every time. -/

namespace Sys2Proof.Machine

open Sys2Proof

/-! ## The walk without its arithmetic -/

/-- Exchanging the axes: the error term and the two increments change sign and roles. -/
theorem lineWalk_swap (x1 y1 dx dy sx sy : Int) (n : Nat) (x y err : Int) :
    lineWalk y1 x1 (-dy) (-dx) sy sx n y x (-err) = (lineWalk x1 y1 dx dy sx sy n x y err).map Prod.swap := by
  induction n generalizing x y err with
  | zero => rfl
  | succ n ih =>
    have hx : -dx ≤ 2 * -err ↔ 2 * err ≤ dx := by omega
    have hy : 2 * -err ≤ -dy ↔ dy ≤ 2 * err := by omega
    simp only [lineWalk, List.map_cons, Prod.swap_prod_mk, hx, hy, and_comm (a := y = y1)]
    split
    · rfl
    · rw [← ih]
      congr 3
      split <;> split <;> omega

theorem linePts_swap (x0 y0 x1 y1 : Int) : linePts y0 x0 y1 x1 = (linePts x0 y0 x1 y1).map Prod.swap := by
  simp only [linePts, ← lineWalk_swap, neg_neg, neg_add_rev, max_comm]

/-- `q` follows `p` in a walk: each coordinate has moved in its direction or not at all. -/
def LineStep (sx sy : Int) (p q : Pt) : Prop := (q.1 = p.1 ∨ q.1 = p.1 + sx) ∧ (q.2 = p.2 ∨ q.2 = p.2 + sy)

theorem lineWalk_isChain (x1 y1 dx dy sx sy : Int) (n : Nat) (x y err : Int) :
    (lineWalk x1 y1 dx dy sx sy n x y err).IsChain (LineStep sx sy) := by
  induction n generalizing x y err with
  | zero => exact .nil
  | succ n ih =>
    unfold lineWalk
    split
    · exact .singleton _
    · refine List.isChain_cons.2 ⟨fun q hq => ?_, ih _ _ _⟩
      cases n with
      | zero => cases hq
      | succ n =>
        obtain rfl := Option.some.inj hq
        constructor <;> dsimp only <;> split <;> simp

/-! ## The walk of a line that is at least as wide as it is high -/

/-- The list has a point in each of the `m + 1` columns from `x` on, in order, and ends at `e`. -/
structure StepsInX (sx : Int) (m : Nat) (x : Int) (e : Pt) (l : List Pt) : Prop where
  columns : l.map Prod.fst = (List.range (m + 1)).map fun k : Nat => x + sx * k
  last : l.getLast? = some e

theorem StepsInX.cons {sx x : Int} {m : Nat} {e : Pt} {l : List Pt} (h : StepsInX sx m (x + sx) e l) (y : Int) :
    StepsInX sx (m + 1) x e ((x, y) :: l) := by
  refine ⟨?_, by simp [List.getLast?_cons, h.last]⟩
  rw [List.map_cons, h.columns, List.range_succ_eq_map (n := m + 1), List.map_cons, List.map_map]
  congr 1
  · simp
  · refine List.map_congr_left fun k _ => ?_
    simp only [Function.comp_apply]
    push_cast
    ring

/-- The error term of a line of width `p` and height `q` with `m` columns and `r` rows to go, and the bounds it stays
within while every step is a step in x. -/
structure WideError (p q : Int) (m : Nat) (r err : Int) : Prop where
  value : err = p - q + q * m - p * r
  rows : r ≤ q
  low : -q ≤ 2 * err
  high : 2 * err ≤ 3 * p - 2 * q

section WideError

variable {p q r err : Int} {m : Nat} (hp : 0 < p) (hq : 0 ≤ q) (hqp : q ≤ p)

include hp in
/-- The last row is reached with the last column. -/
theorem WideError.rows_eq_zero (h : WideError p q 0 r err) : r = 0 := by
  obtain ⟨hvalue, hrows, hlow, hhigh⟩ := h
  push_cast at hvalue
  have hlow : p * (2 * r - 2) ≤ -q := by linarith
  have hhigh : p * (-2 * r) ≤ p * 1 := by linarith
  have hge : -2 * r ≤ 1 := le_of_mul_le_mul_left hhigh hp
  have hle : r < 2 := by
    by_contra hbig
    have : 0 < p * (2 * r - 2) := mul_pos hp (by omega)
    omega
  by_contra hne
  obtain rfl : r = 1 := by omega
  omega

include hq hqp in
theorem WideError.stepX (h : WideError p q (m + 1) r err) (hx : p < 2 * err) : WideError p q m r (err + -q + 0) := by
  obtain ⟨hvalue, hrows, -, hhigh⟩ := h
  exact ⟨by rw [hvalue]; push_cast; ring, hrows, by omega, by omega⟩

include hqp in
theorem WideError.stepBoth (h : WideError p q (m + 1) r err) (hy : 2 * err ≤ p) :
    WideError p q m (r - 1) (err + -q + p) := by
  obtain ⟨hvalue, hrows, hlow, -⟩ := h
  exact ⟨by rw [hvalue]; push_cast; ring, by omega, by omega, by omega⟩

end WideError

/-- A walk whose error term is within the bounds has a point in each of the columns to go, and ends where they end. -/
theorem lineWalk_stepsInX {p q sx sy : Int} (hp : 0 < p) (hq : 0 ≤ q) (hqp : q ≤ p) (hsx : sx ≠ 0) (m : Nat)
    (x y r err : Int) (herr : WideError p q m r err) :
    StepsInX sx m x (x + sx * m, y + sy * r)
      (lineWalk (x + sx * m) (y + sy * r) p (-q) sx sy (m + 1) x y err) := by
  induction m generalizing x y r err with
  | zero =>
    have hrows := herr.rows_eq_zero hp
    exact ⟨by simp [lineWalk, hrows], by simp [lineWalk, hrows]⟩
  | succ m ih =>
    have hgo : ¬ (x = x + sx * (m + 1 : Nat) ∧ y = y + sy * r) := by
      rintro ⟨hx, -⟩
      rcases mul_eq_zero.1 (show sx * (m + 1 : Nat) = 0 by omega) with h | h
      · exact hsx h
      · omega
    have hx : x + sx * (m + 1 : Nat) = x + sx + sx * m := by push_cast; ring
    rw [lineWalk, if_neg hgo, hx]
    simp only [herr.low, if_true]
    refine StepsInX.cons ?_ y
    by_cases hy : 2 * err ≤ p
    · have hrow : y + sy * r = y + sy + sy * (r - 1) := by ring
      simp only [hy, if_true, hrow]
      exact ih _ _ _ _ (herr.stepBoth hqp hy)
    · simp only [hy, if_false]
      exact ih _ _ _ _ (herr.stepX hq hqp (by omega))

/-- From `a` in the direction of `b`, as far as `b` is away. -/
theorem add_direction_mul_natAbs (a b : Int) : a + (if a < b then 1 else -1) * ((b - a).natAbs : Int) = b := by
  split <;> omega

theorem linePts_self (x y : Int) : linePts x y x y = [(x, y)] := by simp [linePts, lineWalk]

/-- A line that is at least as wide as it is high has one point in each of its columns. -/
theorem linePts_stepsInX {x0 y0 x1 y1 : Int} (h : (y1 - y0).natAbs ≤ (x1 - x0).natAbs) :
    StepsInX (if x0 < x1 then 1 else -1) (x1 - x0).natAbs x0 (x1, y1) (linePts x0 y0 x1 y1) := by
  by_cases hx : x0 = x1
  · obtain rfl := hx
    obtain rfl : y0 = y1 := by omega
    rw [linePts_self]
    exact ⟨by simp, rfl⟩
  · have hsteps := lineWalk_stepsInX (p := (x1 - x0).natAbs) (q := (y1 - y0).natAbs)
      (sx := if x0 < x1 then 1 else -1) (sy := if y0 < y1 then 1 else -1) (by omega) (by omega) (by omega)
      (by split <;> simp) (x1 - x0).natAbs x0 y0 (y1 - y0).natAbs ((x1 - x0).natAbs - (y1 - y0).natAbs)
      ⟨by ring, le_rfl, by omega, by omega⟩
    rw [add_direction_mul_natAbs x0 x1, add_direction_mul_natAbs y0 y1] at hsteps
    rwa [linePts, max_eq_left h, ← sub_eq_add_neg]

theorem StepsInX.length_eq {sx x : Int} {m : Nat} {e : Pt} {l : List Pt} (h : StepsInX sx m x e l) :
    l.length = m + 1 := by
  simpa using congrArg List.length h.columns

theorem StepsInX.nodup {sx x : Int} {m : Nat} {e : Pt} {l : List Pt} (h : StepsInX sx m x e l) (hsx : sx ≠ 0) :
    l.Nodup := by
  refine .of_map Prod.fst ?_
  rw [h.columns]
  refine List.Nodup.map (fun j k hjk => ?_) List.nodup_range
  simpa [hsx] using hjk

/-- What the two kinds of line have in common (42_draw.md R201). -/
theorem linePts_walk (x0 y0 x1 y1 : Int) :
    (linePts x0 y0 x1 y1).length = max (x1 - x0).natAbs (y1 - y0).natAbs + 1 ∧ (linePts x0 y0 x1 y1).Nodup ∧
      (linePts x0 y0 x1 y1).getLast? = some (x1, y1) := by
  rcases le_total (y1 - y0).natAbs (x1 - x0).natAbs with hwide | hsteep
  · have h := linePts_stepsInX hwide
    exact ⟨by rw [h.length_eq, max_eq_left hwide], h.nodup (by split <;> simp), h.last⟩
  · have h := linePts_stepsInX hsteep
    rw [linePts_swap y0 x0 y1 x1]
    refine ⟨by rw [List.length_map, h.length_eq, max_eq_right hsteep], ?_, ?_⟩
    · exact (h.nodup (by split <;> simp)).map Prod.swap_injective
    · rw [List.getLast?_map, h.last]
      rfl

/-- Settles O42: the arithmetic gives the length and the end, the form of the loop the steps. -/
theorem lineIsAMonotonicWalk : Obligations.LineIsAMonotonicWalk := by
  unfold Obligations.LineIsAMonotonicWalk
  intro x0 y0 x1 y1
  obtain ⟨hlength, hnodup, hlast⟩ := linePts_walk x0 y0 x1 y1
  refine ⟨hlength, hnodup, rfl, hlast, fun k p q hp hq => ?_⟩
  obtain ⟨hk, rfl⟩ := List.getElem?_eq_some_iff.1 hp
  obtain ⟨hk', rfl⟩ := List.getElem?_eq_some_iff.1 hq
  exact List.isChain_iff_getElem.1 (lineWalk_isChain ..) k hk'

/-! ## The edges of a rectangle -/

/-- A horizontal walk never steps in y: the error term stays at the width. -/
theorem lineWalk_horizontal {x1 y1 p sx sy : Int} (hp : 0 < p) (n : Nat) (x y : Int) :
    ∀ q ∈ lineWalk x1 y1 p 0 sx sy n x y p, q.2 = y := by
  induction n generalizing x with
  | zero => simp [lineWalk]
  | succ n ih =>
    have hx : 0 ≤ 2 * p := by omega
    have hy : ¬ 2 * p ≤ p := by omega
    intro q hq
    simp only [lineWalk, hx, hy, if_true, if_false, add_zero] at hq
    rcases List.mem_cons.1 hq with rfl | hq
    · rfl
    · split at hq
      · cases hq
      · exact ih _ q hq

theorem linePts_horizontal_snd {x0 y x1 : Int} {q : Pt} (hq : q ∈ linePts x0 y x1 y) : q.2 = y := by
  by_cases hx : x0 = x1
  · rw [hx, linePts_self, List.mem_singleton] at hq
    rw [hq]
  · have hp : (0 : Int) < (x1 - x0).natAbs := by omega
    simp only [linePts, sub_self, Int.natAbs_zero, Nat.cast_zero, neg_zero, add_zero] at hq
    exact lineWalk_horizontal hp _ _ _ q hq

/-- A horizontal edge is every point between its ends (42_draw.md R202). -/
theorem mem_linePts_horizontal (x0 y x1 a b : Int) :
    (a, b) ∈ linePts x0 y x1 y ↔ b = y ∧ min x0 x1 ≤ a ∧ a ≤ max x0 x1 := by
  have hcolumns : a ∈ (linePts x0 y x1 y).map Prod.fst ↔ min x0 x1 ≤ a ∧ a ≤ max x0 x1 := by
    rw [(linePts_stepsInX (by simp)).columns, List.mem_map]
    constructor
    · rintro ⟨k, hk, rfl⟩
      have hk := List.mem_range.1 hk
      split <;> omega
    · intro ha
      refine ⟨(a - x0).natAbs, List.mem_range.2 (by omega), ?_⟩
      split <;> omega
  rw [← hcolumns, List.mem_map]
  constructor
  · exact fun h => ⟨linePts_horizontal_snd h, (a, b), h, rfl⟩
  · rintro ⟨rfl, q, hq, rfl⟩
    obtain rfl := linePts_horizontal_snd hq
    exact hq

theorem mem_linePts_vertical (x y0 y1 a b : Int) :
    (a, b) ∈ linePts x y0 x y1 ↔ a = x ∧ min y0 y1 ≤ b ∧ b ≤ max y0 y1 := by
  rw [linePts_swap y0 x y1 x, ← mem_linePts_horizontal]
  exact List.mem_map_of_injective Prod.swap_injective (a := (b, a))

/-- Settles O43: the two horizontal and the two vertical edges. -/
theorem rectIsTheOutlineOfItsBox : Obligations.RectIsTheOutlineOfItsBox := by
  unfold Obligations.RectIsTheOutlineOfItsBox
  intro x0 y0 x1 y1 x y
  simp only [rectPts, List.mem_append, mem_linePts_horizontal, mem_linePts_vertical]
  omega

end Sys2Proof.Machine
end

section
/-! SUPPORT. The circle generator (42_draw.md R204): what its points are, whatever its error term decides. -/

namespace Sys2Proof.Machine

open Sys2Proof

/-- A point is an octant point of `(x, y)` when its offsets from the centre are `±x` and `±y`, in either order. -/
theorem mem_circleOctants (xc yc x y : Int) (p : Pt) :
    p ∈ circleOctants xc yc x y ↔
      ((p.1 = xc + x ∨ p.1 = xc - x) ∧ (p.2 = yc + y ∨ p.2 = yc - y)) ∨
        ((p.1 = xc + y ∨ p.1 = xc - y) ∧ (p.2 = yc + x ∨ p.2 = yc - x)) := by
  simp only [circleOctants, List.mem_cons, List.not_mem_nil, or_false, Prod.ext_iff]
  grind

/-- One iteration of the loop: the octant points, then the loop with `y` one further and `x` at most one less. -/
theorem circleWalk_succ (xc yc : Int) (n : Nat) {x y : Int} (hxy : y ≤ x) (err : Int) :
    ∃ x' err', (x' = x ∨ x' = x - 1) ∧ ∀ k, circleWalk xc yc (n + k + 1) x y err =
      circleOctants xc yc x y ++ circleWalk xc yc (n + k) x' (y + 1) err' := by
  by_cases herr : err < 0
  · exact ⟨x, _, .inl rfl, fun k => by rw [circleWalk, if_pos hxy]; simp only [herr, if_true]; rfl⟩
  · exact ⟨x - 1, _, .inr rfl, fun k => by rw [circleWalk, if_pos hxy]; simp only [herr, if_false]; rfl⟩

theorem circleWalk_done (xc yc : Int) (n : Nat) {x y : Int} (hxy : x < y) (err : Int) :
    circleWalk xc yc n x y err = [] := by
  cases n with
  | zero => rfl
  | succ n => exact if_neg (by omega)

/-- The points are those of octants `(x', y')` with `y' ≤ x'` between where the loop is and its start. -/
theorem mem_circleWalk {xc yc : Int} {n : Nat} {x y err : Int} {p : Pt} (hp : p ∈ circleWalk xc yc n x y err) :
    ∃ x' y', y ≤ y' ∧ y' ≤ x' ∧ x' ≤ x ∧ p ∈ circleOctants xc yc x' y' ∧
      ∀ q ∈ circleOctants xc yc x' y', q ∈ circleWalk xc yc n x y err := by
  induction n generalizing x y err with
  | zero => cases hp
  | succ n ih =>
    by_cases hxy : y ≤ x
    · obtain ⟨x1, err1, hx1, hwalk⟩ := circleWalk_succ xc yc n hxy err
      have hwalk := hwalk 0
      simp only [Nat.add_zero] at hwalk
      rw [hwalk] at hp ⊢
      rcases List.mem_append.1 hp with hp | hp
      · exact ⟨x, y, le_rfl, hxy, le_rfl, hp, fun q hq => List.mem_append_left _ hq⟩
      · obtain ⟨x', y', hy, hxy', hx, hmem, hall⟩ := ih hp
        exact ⟨x', y', by omega, hxy', by omega, hmem, fun q hq => List.mem_append_right _ (hall q hq)⟩
    · rw [circleWalk_done _ _ _ (by omega)] at hp
      cases hp

/-- The loop has ended once more iterations than the columns between `y` and `x` are allowed. -/
theorem circleWalk_fuel (xc yc : Int) (n k : Nat) {x y : Int} (hn : x - y < n) (err : Int) :
    circleWalk xc yc (n + k) x y err = circleWalk xc yc n x y err := by
  induction n generalizing x y err with
  | zero => rw [circleWalk_done _ _ _ (by omega), circleWalk_done _ _ _ (by omega)]
  | succ n ih =>
    by_cases hxy : y ≤ x
    · obtain ⟨x', err', hx', hwalk⟩ := circleWalk_succ xc yc n hxy err
      rw [Nat.add_right_comm, hwalk k, ih (by omega)]
      exact (hwalk 0).symm
    · rw [circleWalk_done _ _ _ (by omega), circleWalk_done _ _ _ (by omega)]

/-- What the circle's points are: octant points between the axis and the diagonal, all eight of each. -/
theorem mem_circlePts {xc yc : Int} {r : Nat} {p : Pt} (hp : p ∈ circlePts xc yc r) :
    ∃ x y : Int, 0 ≤ y ∧ y ≤ x ∧ x ≤ r ∧ p ∈ circleOctants xc yc x y ∧
      ∀ q ∈ circleOctants xc yc x y, q ∈ circlePts xc yc r :=
  mem_circleWalk hp

/-- Settles O44: each iteration plots an orbit of the symmetries, the first one the axis points. -/
theorem circleHasTheSymmetriesOfTheSquare : Obligations.CircleHasTheSymmetriesOfTheSquare := by
  unfold Obligations.CircleHasTheSymmetriesOfTheSquare
  refine ⟨fun xc yc r dx dy hp => ?_, fun xc yc r => ?_, fun xc yc r x y hp => ?_, fun xc yc r k => ?_⟩
  · obtain ⟨x, y, -, -, -, hmem, hall⟩ := mem_circlePts hp
    simp only [mem_circleOctants] at hmem
    refine ⟨hall _ ?_, hall _ ?_, hall _ ?_⟩ <;> simp only [mem_circleOctants] <;> omega
  · obtain ⟨x', err', -, hwalk⟩ := circleWalk_succ xc yc r (x := r) (y := 0) (by omega) (1 - r)
    have hwalk : circlePts xc yc r = _ := hwalk 0
    rw [hwalk]
    exact List.mem_append_left _ (by simp [circleOctants])
  · obtain ⟨x', y', hy, hxy, hx, hmem, -⟩ := mem_circlePts hp
    simp only [mem_circleOctants] at hmem
    omega
  · exact circleWalk_fuel _ _ _ _ (by omega) _

end Sys2Proof.Machine
end

section
/-! SUPPORT. The ellipse generator (42_draw.md R206).  Its error term is the value of the ellipse's equation at the
pixel diagonally ahead; that keeps the main loop in the box, where it then ends after at most as many iterations as a
quadrant of the box has columns and rows, and the tip loop plots the rows left. -/

namespace Sys2Proof.Machine

open Sys2Proof

/-! ## Lists that are symmetric in a box -/

/-- The points are symmetric about the centre `(cx / 2, cy / 2)`, and lie in the box of width `a` and height `b` around
it. -/
def MirroredIn (cx cy : Int) (a b : Nat) (pts : List Pt) : Prop :=
  ∀ p ∈ pts, (cx - p.1, p.2) ∈ pts ∧ (p.1, cy - p.2) ∈ pts ∧ (2 * p.1 - cx).natAbs ≤ a ∧ (2 * p.2 - cy).natAbs ≤ b

theorem mirroredIn_nil (cx cy : Int) (a b : Nat) : MirroredIn cx cy a b [] := by simp [MirroredIn]

theorem MirroredIn.append {cx cy : Int} {a b : Nat} {l k : List Pt} (hl : MirroredIn cx cy a b l)
    (hk : MirroredIn cx cy a b k) : MirroredIn cx cy a b (l ++ k) := by
  intro p hp
  rcases List.mem_append.1 hp with hp | hp
  · obtain ⟨hx, hy, hbox⟩ := hl p hp
    exact ⟨List.mem_append_left _ hx, List.mem_append_left _ hy, hbox⟩
  · obtain ⟨hx, hy, hbox⟩ := hk p hp
    exact ⟨List.mem_append_right _ hx, List.mem_append_right _ hy, hbox⟩

/-- The four corners of a box with the same centre. -/
theorem mirroredIn_corners {cx cy l r u d : Int} {a b : Nat} {pts : List Pt}
    (hpts : ∀ p, p ∈ pts ↔ (p.1 = l ∨ p.1 = r) ∧ (p.2 = u ∨ p.2 = d)) (hcx : l + r = cx) (hcy : u + d = cy)
    (ha : (r - l).natAbs ≤ a) (hb : (u - d).natAbs ≤ b) : MirroredIn cx cy a b pts := by
  intro p hp
  have hp := (hpts p).1 hp
  exact ⟨(hpts _).2 (by dsimp only; omega), (hpts _).2 (by dsimp only; omega), by omega, by omega⟩

/-! ## The loop variables -/

/-- How many columns right of the left edge the right edge of the current box is. -/
def EllipseVars.width (t : EllipseVars) : Int := t.x1 - t.x0

/-- How many rows its lower edge is below its upper edge. -/
def EllipseVars.height (t : EllipseVars) : Int := t.y0 - t.y1

/-- The vertical step of the main loop. -/
def EllipseVars.stepRow (a8 : Int) (t : EllipseVars) : EllipseVars :=
  { t with y0 := t.y0 + 1, y1 := t.y1 - 1, dy := t.dy + a8, err := t.err + (t.dy + a8) }

/-- The horizontal step of the main loop. -/
def EllipseVars.stepColumn (b8 : Int) (t : EllipseVars) : EllipseVars :=
  { t with x0 := t.x0 + 1, x1 := t.x1 - 1, dx := t.dx + b8, err := t.err + (t.dx + b8) }

@[simp] theorem stepRow_width (a8 : Int) (t : EllipseVars) : (t.stepRow a8).width = t.width := rfl

@[simp] theorem stepRow_height (a8 : Int) (t : EllipseVars) : (t.stepRow a8).height = t.height + 2 := by
  simp only [EllipseVars.stepRow, EllipseVars.height]
  ring

@[simp] theorem stepColumn_width (b8 : Int) (t : EllipseVars) : (t.stepColumn b8).width = t.width - 2 := by
  simp only [EllipseVars.stepColumn, EllipseVars.width]
  ring

@[simp] theorem stepColumn_height (b8 : Int) (t : EllipseVars) : (t.stepColumn b8).height = t.height := rfl

/-- What one iteration does: without a vertical step it steps horizontally, and with one it may. -/
theorem ellipseNext_cases (a8 b8 : Int) (t : EllipseVars) :
    (ellipseNext a8 b8 t = t.stepColumn b8) ∨
    (2 * t.err ≤ t.dy ∧ ellipseNext a8 b8 t = (t.stepRow a8).stepColumn b8) ∨
    (2 * t.err ≤ t.dy ∧ 2 * t.err < t.dx ∧ ellipseNext a8 b8 t = t.stepRow a8) := by
  by_cases hrow : 2 * t.err ≤ t.dy
  · by_cases hcol : t.dx ≤ 2 * t.err ∨ t.dy + a8 < 2 * (t.err + (t.dy + a8))
    · exact .inr (.inl ⟨hrow, by simp only [ellipseNext, hrow, if_true, hcol]; rfl⟩)
    · refine .inr (.inr ⟨hrow, by omega, ?_⟩)
      simp only [ellipseNext, hrow, if_true, hcol, if_false]
      rfl
  · have hcol : t.dx ≤ 2 * t.err ∨ t.dy < 2 * t.err := by omega
    exact .inl (by simp only [ellipseNext, hrow, if_false, hcol, if_true]; rfl)

/-- What the loop variables are while the current box has width `w` and height `h`, in a box of width `a` and height `b`
centred on `(cx / 2, cy / 2)`: `err` is the ellipse's equation at the pixel diagonally ahead, `dx` and `dy` its last
increments. -/
structure EllipseVars.Inv (a b : Nat) (cx cy : Int) (t : EllipseVars) : Prop where
  dx : t.dx = 4 * b * b * (1 - t.width)
  dy : t.dy = 4 * a * a * (t.height + 1)
  err : t.err = b * b * (2 - t.width) ^ 2 + a * a * (t.height + 2) ^ 2 - a * a * b * b
  cx : t.x0 + t.x1 = cx
  cy : t.y0 + t.y1 = cy
  width : t.width ≤ a
  height : 0 ≤ t.height
  even : (b - t.height) % 2 = 0

section Steps

variable {a b : Nat} {cx cy : Int} {t : EllipseVars}

theorem EllipseVars.Inv.stepRow (h : t.Inv a b cx cy) : (t.stepRow (8 * a * a)).Inv a b cx cy := by
  obtain ⟨hdx, hdy, herr, hcx, hcy, hwidth, hheight, heven⟩ := h
  refine ⟨hdx, ?_, ?_, hcx, ?_, hwidth, ?_, ?_⟩
  · rw [stepRow_height, EllipseVars.stepRow, hdy]
    ring
  · rw [stepRow_height, stepRow_width, EllipseVars.stepRow, herr, hdy]
    ring
  · simp only [EllipseVars.stepRow]
    omega
  all_goals rw [stepRow_height]; omega

theorem EllipseVars.Inv.stepColumn (h : t.Inv a b cx cy) : (t.stepColumn (8 * b * b)).Inv a b cx cy := by
  obtain ⟨hdx, hdy, herr, hcx, hcy, hwidth, hheight, heven⟩ := h
  refine ⟨?_, hdy, ?_, ?_, hcy, ?_, hheight, heven⟩
  · rw [stepColumn_width, EllipseVars.stepColumn, hdx]
    ring
  · rw [stepColumn_height, stepColumn_width, EllipseVars.stepColumn, herr, hdx]
    ring
  · simp only [EllipseVars.stepColumn]
    omega
  · rw [stepColumn_width]
    omega

/-- In the outermost rows a vertical step comes only in the box of one pixel, and then with a horizontal one. -/
theorem EllipseVars.Inv.dx_le_of_top (h : t.Inv a b cx cy) (htop : t.height = b) (hrow : 2 * t.err ≤ t.dy) :
    a = 0 ∧ t.dx ≤ 2 * t.err := by
  obtain ⟨hdx, hdy, herr, -, -, hwidth, -, -⟩ := h
  rw [htop] at hdy herr
  have hsum : (b * (2 - t.width)) ^ 2 + 2 * (a ^ 2 * (b + 1)) ≤ (0 : Int) := by rw [herr, hdy] at hrow; linarith
  have hrows : 0 ≤ (a ^ 2 * (b + 1) : Int) := by positivity
  have hcols := sq_nonneg (b * (2 - t.width))
  have ha : a = 0 := by
    have hzero : (a ^ 2 * (b + 1) : Int) = 0 := by omega
    rcases mul_eq_zero.1 hzero with h | h
    · exact_mod_cast pow_eq_zero_iff two_ne_zero |>.1 h
    · omega
  have hb : b = 0 := by
    have hzero : (b * (2 - t.width) : Int) = 0 := pow_eq_zero_iff two_ne_zero |>.1 (by omega)
    rcases mul_eq_zero.1 hzero with h | h
    · exact_mod_cast h
    · omega
  subst ha hb
  simp [hdx, herr]

/-- One iteration of the main loop with the current box in the box given: the columns close in by one
on each side, or the rows move out by one on each side, or both; if the loop goes on the rows are still in the box. -/
theorem EllipseVars.Inv.ellipseNext (h : t.Inv a b cx cy) (hbox : t.height ≤ b) {u : EllipseVars}
    (hu : u = Machine.ellipseNext (8 * a * a) (8 * b * b) t) :
    u.Inv a b cx cy ∧ (u.width = t.width ∨ u.width = t.width - 2) ∧
      u.width - u.height < t.width - t.height ∧ (t.height < b ∨ 0 ≤ u.width → u.height ≤ b) := by
  have heven := h.even
  have hwidth := h.width
  have htop := h.dx_le_of_top
  rcases ellipseNext_cases (8 * a * a) (8 * b * b) t with hcol | ⟨hrow, hboth⟩ | ⟨hrow, hno, honly⟩
  · rw [hu, hcol]
    refine ⟨h.stepColumn, ?_⟩
    rw [stepColumn_width, stepColumn_height]
    omega
  · rw [hu, hboth]
    refine ⟨h.stepRow.stepColumn, ?_⟩
    rw [stepColumn_width, stepColumn_height, stepRow_width, stepRow_height]
    omega
  · rw [hu, honly]
    refine ⟨h.stepRow, ?_⟩
    rw [stepRow_width, stepRow_height]
    omega

/-! ## The tip loop -/

theorem ellipseTip_done {n : Nat} (hdone : b < t.height) : ellipseTip b n t = [] := by
  cases n with
  | zero => rfl
  | succ n => exact if_neg (not_le.2 hdone)

/-- The variables after an iteration of the tip loop. -/
def EllipseVars.tipNext (t : EllipseVars) : EllipseVars := { t with y0 := t.y0 + 1, y1 := t.y1 - 1 }

@[simp] theorem tipNext_height (t : EllipseVars) : t.tipNext.height = t.height + 2 := by
  simp only [EllipseVars.tipNext, EllipseVars.height]
  ring

theorem ellipseTip_succ (n : Nat) (hgo : t.height ≤ b) :
    ellipseTip b (n + 1) t =
      [(t.x0 - 1, t.y0), (t.x1 + 1, t.y0), (t.x0 - 1, t.y1), (t.x1 + 1, t.y1)] ++ ellipseTip b n t.tipNext :=
  if_pos hgo

/-- The tip's points are symmetric and lie in the box: it plots one column beyond the current box on each side. -/
theorem mirroredIn_ellipseTip (n : Nat) (hcx : t.x0 + t.x1 = cx) (hcy : t.y0 + t.y1 = cy)
    (hwidth : (t.width + 2).natAbs ≤ a) (hheight : 0 ≤ t.height) : MirroredIn cx cy a b (ellipseTip b n t) := by
  induction n generalizing t with
  | zero => exact mirroredIn_nil cx cy a b
  | succ n ih =>
    rcases le_or_gt t.height b with hgo | hdone
    · rw [ellipseTip_succ n hgo]
      simp only [EllipseVars.width, EllipseVars.height] at hwidth hheight hgo
      refine .append (mirroredIn_corners (l := t.x0 - 1) (r := t.x1 + 1) (u := t.y0) (d := t.y1) (fun p => ?_)
        (by omega) hcy (by omega) (by omega)) (ih hcx ?_ hwidth ?_)
      · simp only [List.mem_cons, List.not_mem_nil, or_false, Prod.ext_iff]
        grind
      · simp only [EllipseVars.tipNext]
        omega
      · simp only [EllipseVars.tipNext, EllipseVars.height]
        omega
    · rw [ellipseTip_done hdone]
      exact mirroredIn_nil cx cy a b

/-- The tip loop has ended once it is allowed more iterations than there are rows left. -/
theorem ellipseTip_fuel (n k : Nat) (hn : b - t.height < 2 * n) : ellipseTip b (n + k) t = ellipseTip b n t := by
  induction n generalizing t with
  | zero => rw [ellipseTip_done (by omega), ellipseTip_done (by omega)]
  | succ n ih =>
    rcases le_or_gt t.height b with hgo | hdone
    · rw [Nat.add_right_comm, ellipseTip_succ _ hgo, ellipseTip_succ _ hgo, ih (by rw [tipNext_height]; omega)]
    · rw [ellipseTip_done hdone, ellipseTip_done hdone]

/-- The tip loop reaches the outermost rows. -/
theorem ellipseTip_reaches (n : Nat) (hcy : t.y0 + t.y1 = cy) (heven : (b - t.height) % 2 = 0) (hgo : t.height ≤ b)
    (hn : b - t.height < 2 * n) : ∃ p ∈ ellipseTip b n t, 2 * p.2 - cy = b := by
  induction n generalizing t with
  | zero => omega
  | succ n ih =>
    rw [ellipseTip_succ n hgo]
    by_cases htop : t.height = b
    · refine ⟨(t.x1 + 1, t.y0), by simp, ?_⟩
      simp only [EllipseVars.height] at htop
      dsimp only
      omega
    · obtain ⟨p, hp, hrow⟩ := ih (t := t.tipNext) (by simp only [EllipseVars.tipNext]; omega)
        (by rw [tipNext_height]; omega) (by rw [tipNext_height]; omega) (by rw [tipNext_height]; omega)
      exact ⟨p, List.mem_append_right _ hp, hrow⟩

/-! ## The main loop -/

theorem ellipseWalk_succ (a8 b8 c : Int) (j n : Nat) (t : EllipseVars) :
    ellipseWalk a8 b8 c j (n + 1) t = [(t.x1, t.y0), (t.x0, t.y0), (t.x0, t.y1), (t.x1, t.y1)] ++
      if (ellipseNext a8 b8 t).width < 0 then ellipseTip c j (ellipseNext a8 b8 t)
      else ellipseWalk a8 b8 c j n (ellipseNext a8 b8 t) := by
  simp only [ellipseWalk, EllipseVars.width, sub_neg, gt_iff_lt]

/-- The points of the main loop and of the tip loop after it are symmetric and lie in the box. -/
theorem mirroredIn_ellipseWalk (j n : Nat) (h : t.Inv a b cx cy) (hwidth : 0 ≤ t.width) (hbox : t.height ≤ b) :
    MirroredIn cx cy a b (ellipseWalk (8 * a * a) (8 * b * b) b j n t) := by
  induction n generalizing t with
  | zero => exact mirroredIn_nil cx cy a b
  | succ n ih =>
    rw [ellipseWalk_succ]
    obtain ⟨hinv, hw, hshrinks, hin⟩ := h.ellipseNext hbox rfl
    refine .append (mirroredIn_corners (l := t.x0) (r := t.x1) (u := t.y0) (d := t.y1) (fun p => ?_) h.cx h.cy ?_ ?_) ?_
    · simp only [List.mem_cons, List.not_mem_nil, or_false, Prod.ext_iff]
      grind
    · have := h.width
      simp only [EllipseVars.width] at this hwidth
      omega
    · have := h.height
      simp only [EllipseVars.height] at this hbox
      omega
    · have := h.width
      split
      · exact mirroredIn_ellipseTip j hinv.cx hinv.cy (by omega) hinv.height
      · exact ih hinv (by omega) (hin (by omega))

/-- Both loops have ended within their bounds. -/
theorem ellipseWalk_fuel (j n k : Nat) (h : t.Inv a b cx cy) (hwidth : 0 ≤ t.width) (hbox : t.height ≤ b)
    (hn : t.width - t.height + b < n) :
    ellipseWalk (8 * a * a) (8 * b * b) b (b + 2 + j) (n + k) t =
      ellipseWalk (8 * a * a) (8 * b * b) b (b + 2) n t := by
  induction n generalizing t with
  | zero => omega
  | succ n ih =>
    obtain ⟨hinv, -, hshrinks, hin⟩ := h.ellipseNext hbox rfl
    have := hinv.height
    rw [Nat.add_right_comm n 1 k, ellipseWalk_succ, ellipseWalk_succ]
    split
    · rw [ellipseTip_fuel (b + 2) j (by omega)]
    · rw [ih hinv (by omega) (hin (by omega)) (by omega)]

/-- The loops reach the outermost rows. -/
theorem ellipseWalk_reaches (n : Nat) (h : t.Inv a b cx cy) (hwidth : 0 ≤ t.width) (hbox : t.height ≤ b)
    (hn : t.width - t.height + b < n) :
    ∃ p ∈ ellipseWalk (8 * a * a) (8 * b * b) b (b + 2) n t, 2 * p.2 - cy = b := by
  induction n generalizing t with
  | zero => omega
  | succ n ih =>
    obtain ⟨hinv, -, hshrinks, hin⟩ := h.ellipseNext hbox rfl
    have := hinv.height
    rw [ellipseWalk_succ]
    by_cases htop : t.height = b
    · refine ⟨(t.x1, t.y0), by simp, ?_⟩
      have := h.cy
      simp only [EllipseVars.height] at htop
      dsimp only
      omega
    · have hin := hin (.inl (by omega))
      split
      · obtain ⟨p, hp, hrow⟩ := ellipseTip_reaches (b + 2) hinv.cy hinv.even hin (by omega)
        exact ⟨p, List.mem_append_right _ hp, hrow⟩
      · obtain ⟨p, hp, hrow⟩ := ih hinv (by omega) hin (by omega)
        exact ⟨p, List.mem_append_right _ hp, hrow⟩

end Steps

/-! ## The whole ellipse -/

theorem ellipsePts_swap_x (x0 y0 x1 y1 : Int) : ellipsePts x1 y0 x0 y1 = ellipsePts x0 y0 x1 y1 := by
  have ha : (x0 - x1).natAbs = (x1 - x0).natAbs := by omega
  have hleft : (if x1 > x0 then x0 else x1) = if x0 > x1 then x1 else x0 := by split <;> split <;> omega
  have hright : (if x1 > x0 then x0 + ((x1 - x0).natAbs : Int) else x0) =
      if x0 > x1 then x1 + ((x1 - x0).natAbs : Int) else x1 := by split <;> split <;> omega
  simp only [ellipsePts, ellipseStart, ha, hleft, hright]

theorem ellipsePts_swap_y (x0 y0 x1 y1 : Int) : ellipsePts x0 y1 x1 y0 = ellipsePts x0 y0 x1 y1 := by
  have hb : (y0 - y1).natAbs = (y1 - y0).natAbs := by omega
  have htop : (if y1 > y0 then y0 else y1) = if y0 > y1 then y1 else y0 := by split <;> split <;> omega
  simp only [ellipsePts, ellipseStart, hb, htop]

section Whole

variable (x0 y0 x1 y1 : Int)

theorem ellipseStart_width : (ellipseStart x0 y0 x1 y1).width = (x1 - x0).natAbs := by
  simp only [ellipseStart, EllipseVars.width]
  split <;> omega

theorem ellipseStart_height : (ellipseStart x0 y0 x1 y1).height = ((y1 - y0).natAbs : Int) % 2 := by
  simp only [ellipseStart, EllipseVars.height]
  ring

theorem ellipseStart_inv :
    (ellipseStart x0 y0 x1 y1).Inv (x1 - x0).natAbs (y1 - y0).natAbs (x0 + x1) (y0 + y1) := by
  have hsq : (((y1 - y0).natAbs : Int) % 2) ^ 2 = ((y1 - y0).natAbs : Int) % 2 := by
    rcases Int.emod_two_eq_zero_or_one (y1 - y0).natAbs with h | h <;> rw [h] <;> rfl
  refine ⟨?_, ?_, ?_, ?_, ?_, (ellipseStart_width ..).le, ?_, ?_⟩
  · rw [ellipseStart_width]
    simp only [ellipseStart]
    ring
  · rw [ellipseStart_height]
    simp only [ellipseStart]
    ring
  · rw [ellipseStart_width, ellipseStart_height]
    simp only [ellipseStart]
    linear_combination -((x1 - x0).natAbs : Int) ^ 2 * hsq
  · simp only [ellipseStart]
    split <;> omega
  · simp only [ellipseStart]
    split <;> omega
  · rw [ellipseStart_height]
    omega
  · rw [ellipseStart_height]
    omega

/-- The current box starts inside the box given, and the main loop is allowed enough iterations. -/
theorem ellipseStart_bounds :
    0 ≤ (ellipseStart x0 y0 x1 y1).width ∧ (ellipseStart x0 y0 x1 y1).height ≤ (y1 - y0).natAbs ∧
      (ellipseStart x0 y0 x1 y1).width - (ellipseStart x0 y0 x1 y1).height + (y1 - y0).natAbs <
        ((x1 - x0).natAbs + (y1 - y0).natAbs + 2 : Nat) := by
  rw [ellipseStart_width, ellipseStart_height]
  omega

theorem mirroredIn_ellipsePts :
    MirroredIn (x0 + x1) (y0 + y1) (x1 - x0).natAbs (y1 - y0).natAbs (ellipsePts x0 y0 x1 y1) := by
  obtain ⟨hwidth, hbox, -⟩ := ellipseStart_bounds x0 y0 x1 y1
  exact mirroredIn_ellipseWalk _ _ (ellipseStart_inv ..) hwidth hbox

/-- The first iteration plots the outermost columns. -/
theorem ellipsePts_reaches_side : ∃ p ∈ ellipsePts x0 y0 x1 y1, 2 * p.1 - (x0 + x1) = (x1 - x0).natAbs := by
  have hcx := (ellipseStart_inv x0 y0 x1 y1).cx
  have hwidth := ellipseStart_width x0 y0 x1 y1
  simp only [EllipseVars.width] at hwidth
  refine ⟨((ellipseStart x0 y0 x1 y1).x1, (ellipseStart x0 y0 x1 y1).y0), ?_, by dsimp only; omega⟩
  exact List.mem_append_left _ (List.mem_cons_self ..)

theorem ellipsePts_reaches_top : ∃ p ∈ ellipsePts x0 y0 x1 y1, 2 * p.2 - (y0 + y1) = (y1 - y0).natAbs := by
  obtain ⟨hwidth, hbox, hfuel⟩ := ellipseStart_bounds x0 y0 x1 y1
  exact ellipseWalk_reaches _ (ellipseStart_inv ..) hwidth hbox hfuel

end Whole

/-- Settles O45: the invariant of the main loop at its start. -/
theorem ellipseIsSymmetricInItsBox : Obligations.EllipseIsSymmetricInItsBox := by
  unfold Obligations.EllipseIsSymmetricInItsBox
  intro x0 y0 x1 y1
  have hmirrored := mirroredIn_ellipsePts x0 y0 x1 y1
  obtain ⟨⟨x, ys⟩, hside, hx⟩ := ellipsePts_reaches_side x0 y0 x1 y1
  obtain ⟨⟨xt, y⟩, htop, hy⟩ := ellipsePts_reaches_top x0 y0 x1 y1
  obtain ⟨hside', -⟩ := hmirrored _ hside
  obtain ⟨-, htop', -⟩ := hmirrored _ htop
  dsimp only at hx hy hside' htop'
  refine ⟨ellipsePts_swap_x .., ellipsePts_swap_y .., fun x y hp => ?_, fun x y hp => ?_, ⟨ys, ?_⟩,
    ⟨ys, ?_⟩, ⟨xt, ?_⟩, ⟨xt, ?_⟩, ?_⟩
  · obtain ⟨hx, hy, -⟩ := hmirrored _ hp
    exact ⟨hx, hy⟩
  · obtain ⟨-, -, hx, hy⟩ := hmirrored _ hp
    dsimp only at hx hy
    omega
  · rwa [show min x0 x1 = x0 + x1 - x by omega]
  · rwa [show max x0 x1 = x by omega]
  · rwa [show min y0 y1 = y0 + y1 - y by omega]
  · rwa [show max y0 y1 = y by omega]
  · rintro j k a b rfl rfl
    obtain ⟨hwidth, hbox, hfuel⟩ := ellipseStart_bounds x0 y0 x1 y1
    exact ellipseWalk_fuel _ _ _ (ellipseStart_inv ..) hwidth hbox hfuel

end Sys2Proof.Machine
end

section
/-! SUPPORT. What plotting a list of points does (42_draw.md R200): a point matters exactly when it is in bounds and its
pixel has not the value yet. -/

namespace Sys2Proof.Machine

open Sys2Proof

/-! ## One point -/

theorem inBounds_of_pixelGet_eq_some {s : State} {x y : Int} {b : Bool} (h : pixelGet s x y = some b) :
    s.inBounds x y = true :=
  inBounds_of_pixelGet_ne_none (by simp [h])

/-- The tile of an in-bounds pixel is among the columns times the pages of the framebuffer (20_memory.md R80). -/
theorem tileIndex_lt {s : State} {x y : Int} (hb : s.inBounds x y = true) :
    s.tileIndex x y < s.fb.columns * ((s.fb.height + 7) / 8) := by
  obtain ⟨hx0, hx, hy0, hy⟩ := (inBounds_iff s x y).1 hb
  have hcol : x.toNat < s.fb.columns := by omega
  have hpage : y.toNat / 8 + 1 ≤ (s.fb.height + 7) / 8 := by omega
  calc s.tileIndex x y < y.toNat / 8 * s.fb.columns + s.fb.columns := Nat.add_lt_add_left hcol _
    _ = s.fb.columns * (y.toNat / 8 + 1) := by ring
    _ ≤ s.fb.columns * ((s.fb.height + 7) / 8) := Nat.mul_le_mul_left _ hpage

/-- The pixels that differ from the value after a plot are those that differed before, without the one plotted. -/
theorem pixelGet_pixelSet_eq_not {s : State} {x y x' y' : Int} {v : Bool} :
    pixelGet (pixelSet s x y v).1 x' y' = some (!v) ↔ (x', y') ≠ (x, y) ∧ pixelGet s x' y' = some (!v) := by
  by_cases hb : s.inBounds x y = true
  · by_cases hp : (x', y') = (x, y)
    · obtain ⟨rfl, rfl⟩ := Prod.mk.inj hp
      simp [pixelGet_pixelSet_same hb]
    · simp only [pixelGet_pixelSet_other hb v hp, ne_eq, hp, not_false_eq_true, true_and]
  · rw [pixelSet_of_not_inBounds hb]
    refine ⟨fun h => ⟨fun hp => ?_, h⟩, And.right⟩
    obtain ⟨rfl, rfl⟩ := Prod.mk.inj hp
    exact hb (inBounds_of_pixelGet_eq_some h)

/-! ## All points -/

theorem plotAll_fb_geometry (v : Bool) (pts : List Pt) (s : State) :
    (plotAll v pts s).fb = { s.fb with count := (plotAll v pts s).fb.count } := by
  obtain ⟨⟨_, _, _, _, h⟩, -⟩ := pixelWork_plotAll v pts s
  rw [h]

@[simp] theorem plotAll_inBounds (v : Bool) (pts : List Pt) (s : State) (x y : Int) :
    (plotAll v pts s).inBounds x y = s.inBounds x y := by
  simp only [State.inBounds]
  rw [plotAll_fb_geometry]

/-- The pixels that differ from the value after plotting are those that differed before and are not among the points. -/
theorem pixelGet_plotAll_eq_not {pts : List Pt} {s : State} {x y : Int} {v : Bool} :
    pixelGet (plotAll v pts s) x y = some (!v) ↔ (x, y) ∉ pts ∧ pixelGet s x y = some (!v) := by
  induction pts generalizing s with
  | nil => simp [plotAll]
  | cons p ps ih => rw [plotAll, ih, pixelGet_pixelSet_eq_not, List.mem_cons, not_or]; tauto

/-- An in-bounds point has the value after plotting. -/
theorem pixelGet_plotAll_of_mem {pts : List Pt} {s : State} {x y : Int} {v : Bool} (hp : (x, y) ∈ pts)
    (hb : s.inBounds x y = true) : pixelGet (plotAll v pts s) x y = some v := by
  have hnot : pixelGet (plotAll v pts s) x y ≠ some (!v) := fun h => (pixelGet_plotAll_eq_not.1 h).1 hp
  rw [pixelGet_of_inBounds (by rwa [plotAll_inBounds])] at hnot ⊢
  simpa using hnot

/-- Plotting changes nothing where every point has the value already, or is out of bounds. -/
theorem plotAll_eq_self {pts : List Pt} {s : State} {v : Bool}
    (h : ∀ p ∈ pts, pixelGet s p.1 p.2 ≠ some (!v)) : plotAll v pts s = s := by
  induction pts with
  | nil => rfl
  | cons p ps ih =>
    obtain ⟨hp, hps⟩ := List.forall_mem_cons.1 h
    rw [plotAll]
    rcases pixelSet_cases s p.1 p.2 v with ⟨-, hset⟩ | ⟨-, hset⟩ | ⟨hget, -⟩
    · rw [hset, ih hps]
    · rw [hset, ih hps]
    · exact absurd hget hp

/-! ## The pixels that plotting flips -/

/-- The pixel is one of the points and differs from the value. -/
def Flips (v : Bool) (pts : List Pt) (s : State) (x y : Int) : Prop := (x, y) ∈ pts ∧ pixelGet s x y = some (!v)

/-- What is flipped is the first point, if it differs, or is flipped by plotting the others after it. -/
theorem exists_flips_cons {v : Bool} {p : Pt} {ps : List Pt} {s : State} {Q : Int → Int → Prop} :
    (∃ x y, Flips v (p :: ps) s x y ∧ Q x y) ↔
      (pixelGet s p.1 p.2 = some (!v) ∧ Q p.1 p.2) ∨
        ∃ x y, Flips v ps (pixelSet s p.1 p.2 v).1 x y ∧ Q x y := by
  simp only [Flips, pixelGet_pixelSet_eq_not, List.mem_cons, Prod.mk.eta]
  constructor
  · rintro ⟨x, y, ⟨hmem, hget⟩, hQ⟩
    by_cases hp : (x, y) = p
    · subst hp
      exact .inl ⟨hget, hQ⟩
    · exact .inr ⟨x, y, ⟨hmem.resolve_left hp, hp, hget⟩, hQ⟩
  · rintro (⟨hget, hQ⟩ | ⟨x, y, ⟨hmem, -, hget⟩, hQ⟩)
    · exact ⟨p.1, p.2, ⟨.inl rfl, hget⟩, hQ⟩
    · exact ⟨x, y, ⟨.inr hmem, hget⟩, hQ⟩

/-- A bit that has changed is that of a flipped pixel. -/
theorem plotAll_bit_changed {v : Bool} {pts : List Pt} {s : State} {j n : Nat}
    (h : ((plotAll v pts s).tile j).getLsbD n ≠ (s.tile j).getLsbD n) :
    ∃ x y, Flips v pts s x y ∧ j = s.tileIndex x y ∧ n = y.toNat % 8 := by
  induction pts generalizing s with
  | nil => exact absurd rfl h
  | cons p ps ih =>
    rw [exists_flips_cons]
    by_cases hfirst : ((pixelSet s p.1 p.2 v).1.tile j).getLsbD n = (s.tile j).getLsbD n
    · obtain ⟨x, y, hflips, hplace⟩ := ih (hfirst ▸ h)
      rw [pixelSet_tileIndex] at hplace
      exact .inr ⟨x, y, hflips, hplace⟩
    · rcases pixelSet_cases s p.1 p.2 v with ⟨-, hset⟩ | ⟨-, hset⟩ | ⟨hget, -⟩
      · exact absurd (by rw [hset]) hfirst
      · exact absurd (by rw [hset]) hfirst
      · rw [pixelSet_getLsbD (inBounds_of_pixelGet_eq_some hget)] at hfirst
        exact .inl ⟨hget, by_contra fun hplace => hfirst (if_neg hplace)⟩

/-- A tile is dirty after a plot if it was, or if the pixel differed and is in it. -/
theorem pixelSet_isDirty {s : State} {x y : Int} {v : Bool} {j : Nat} :
    (pixelSet s x y v).1.isDirty j = true ↔
      s.isDirty j = true ∨ pixelGet s x y = some (!v) ∧ j = s.tileIndex x y := by
  rcases pixelSet_cases s x y v with ⟨hget, hset⟩ | ⟨hget, hset⟩ | ⟨hget, hset⟩ <;> rw [hset, hget]
  · simp
  · simp
  · simp [pixelFlipped_isDirty]

/-- The dirty tiles after plotting are those dirty before and those of the flipped pixels. -/
theorem plotAll_isDirty {v : Bool} {pts : List Pt} {s : State} {j : Nat} :
    (plotAll v pts s).isDirty j = true ↔
      s.isDirty j = true ∨ ∃ x y, Flips v pts s x y ∧ j = s.tileIndex x y := by
  induction pts generalizing s with
  | nil => simp [plotAll, Flips]
  | cons p ps ih =>
    rw [plotAll, ih, pixelSet_isDirty, exists_flips_cons, or_assoc]
    simp only [pixelSet_tileIndex]

/-- FB.count grows by the number of tiles that have become dirty. -/
theorem plotAll_count {v : Bool} {pts : List Pt} {s : State} {ntiles : Nat}
    (htiles : ∀ x y, s.inBounds x y = true → s.tileIndex x y < ntiles) :
    (plotAll v pts s).fb.count =
      s.fb.count + (List.range ntiles).countP fun j => (plotAll v pts s).isDirty j && !s.isDirty j := by
  induction pts generalizing s with
  | nil => simp [plotAll]
  | cons p ps ih =>
    have ih := ih (s := (pixelSet s p.1 p.2 v).1) (by simpa using htiles)
    rw [plotAll]
    rcases pixelSet_cases s p.1 p.2 v with ⟨-, hset⟩ | ⟨-, hset⟩ | ⟨hget, hset⟩
    · rwa [hset] at ih ⊢
    · rwa [hset] at ih ⊢
    · rw [hset] at ih ⊢
      rw [ih, pixelFlipped_fb]
      have hlt := htiles _ _ (inBounds_of_pixelGet_eq_some hget)
      have hafter : (plotAll v ps (pixelFlipped s p.1 p.2 v)).isDirty (s.tileIndex p.1 p.2) = true :=
        plotAll_isDirty.2 (.inl (by simp [pixelFlipped_isDirty]))
      by_cases hdirty : s.isDirty (s.tileIndex p.1 p.2) = true
      · have hsame : ∀ j, (pixelFlipped s p.1 p.2 v).isDirty j = s.isDirty j := fun j => by
          by_cases hj : j = s.tileIndex p.1 p.2 <;> simp [pixelFlipped_isDirty, hj, hdirty]
        simp only [hsame, hdirty, if_true, Nat.add_zero]
      · have hone := countP_range_of_differ_at (i := s.tileIndex p.1 p.2) hlt
          (f := fun j => (plotAll v ps (pixelFlipped s p.1 p.2 v)).isDirty j && !(pixelFlipped s p.1 p.2 v).isDirty j)
          (g := fun j => (plotAll v ps (pixelFlipped s p.1 p.2 v)).isDirty j && !s.isDirty j)
          (by simp [pixelFlipped_isDirty]) (by simp [hafter, hdirty])
          (fun j hj => by simp [pixelFlipped_isDirty, hj])
        rw [hone, if_neg hdirty]
        dsimp only
        omega

/-- The FB record after plotting. -/
theorem plotAll_fb (v : Bool) (pts : List Pt) (s : State) :
    (plotAll v pts s).fb = { s.fb with
      count := (s.fb.count + (List.range (s.fb.columns * ((s.fb.height + 7) / 8))).countP
        (fun j => (plotAll v pts s).isDirty j && !s.isDirty j)) } := by
  rw [plotAll_fb_geometry, plotAll_count fun x y => tileIndex_lt]

end Sys2Proof.Machine
end

section
/-! SUPPORT. The statements about the rasterizer commands (42_draw.md R200-R208). -/

namespace Sys2Proof.Machine

open Sys2Proof

/-- A rasterizer command with a framebuffer plots the points of its generator and finishes OK (42_draw.md R200). -/
theorem exec_raster {i : Instr} {s : State} {pts : List Pt} {v : Bool} (hpts : rasterPoints s i = some (pts, v))
    (halloc : s.fb.alloc = true) : exec i s = .next ((plotAll v pts s).finish .ok) := by
  cases i with
  | drawLine _ | drawRect _ | drawCircle _ | drawEllipseRect _ =>
    cases hpts
    exact congrArg Host.Outcome.next (if_pos halloc)
  | fbCreate | fbClear | fbSetPixel _ | fbGetPixel | fbDestroy | dispInit | dispOn _ | dispUpdate | dispUpdateAll
  | dispUpdateDiff | dispSetColRange | dispSetPageRange | drawFill _ _ | stkAlloc | stkPush | stkPop | stkDealloc =>
    cases hpts

/-- Settles O46: the laws of `plotAll`, with its frame. -/
theorem rasterizersPlotTheirPoints : Obligations.RasterizersPlotTheirPoints := by
  unfold Obligations.RasterizersPlotTheirPoints
  intro i s pts v hpts halloc
  have hstk := plotAll_fstk v pts s
  refine ⟨_, exec_raster hpts halloc, rfl, rfl, fun x y hp hget => ?_, fun j n hbit => ?_, fun j => ?_,
    plotAll_fb v pts s, ?_⟩
  · exact pixelGet_plotAll_of_mem hp (inBounds_of_pixelGet_ne_none hget)
  · obtain ⟨x, y, ⟨hp, hget⟩, hplace⟩ := plotAll_bit_changed hbit
    exact ⟨x, y, hp, hget, hplace⟩
  · simpa only [finish_isDirty, Flips, and_assoc] using plotAll_isDirty (v := v) (pts := pts) (s := s) (j := j)
  · obtain ⟨⟨_, _, _, _, hframe⟩, -⟩ := pixelWork_plotAll v pts s
    rw [hframe] at hstk ⊢
    exact ⟨rfl, rfl, rfl, ⟨rfl, rfl, rfl, rfl, rfl, rfl⟩, ⟨rfl, rfl, rfl⟩, ⟨rfl, hstk⟩, rfl, rfl, rfl⟩

/-- The points of a rasterizer command are read from the ARG registers, which plotting leaves alone. -/
theorem rasterPoints_plotAll (v : Bool) (pts : List Pt) (s : State) (c : Status) (i : Instr) :
    rasterPoints ((plotAll v pts s).finish c) i = rasterPoints s i := by
  obtain ⟨⟨_, _, _, _, hframe⟩, -⟩ := pixelWork_plotAll v pts s
  rw [hframe]
  rfl

/-- Settles O47: the second run has the same points, and none of them differs from the value any more. -/
theorem rasterizingTwiceIsRasterizingOnce : Obligations.RasterizingTwiceIsRasterizingOnce := by
  unfold Obligations.RasterizingTwiceIsRasterizingOnce
  intro i s t pts v hpts halloc hexec
  obtain rfl := Host.Outcome.next.inj ((exec_raster hpts halloc).symm.trans hexec)
  have halloc' : ((plotAll v pts s).finish .ok).fb.alloc = true := by rwa [finish_fb, plotAll_fb_geometry]
  have hdone : plotAll v pts ((plotAll v pts s).finish .ok) = (plotAll v pts s).finish .ok :=
    plotAll_eq_self fun p hp hget => (pixelGet_plotAll_eq_not.1 hget).1 hp
  rw [exec_raster ((rasterPoints_plotAll v pts s .ok i).trans hpts) halloc', hdone]
  rfl

end Sys2Proof.Machine
end

section
/-! SUPPORT. What each host stack command does in each of its cases (43_fill_stack.md R238-R241). -/

namespace Sys2Proof.Machine

open Sys2Proof

/-! ## No stack -/

/-- The allocation check that STK_PUSH, STK_POP and STK_DEALLOC begin with (43_fill_stack.md R239-R241). -/
theorem exec_without_stack {i : Instr} {s : State} (hi : i ∈ [.stkPush, .stkPop, .stkDealloc])
    (hfree : s.stk.alloc = false) : exec i s = .next (s.finish .invalidArgument) := by
  have hno : ¬ s.stk.alloc = true := by simp [hfree]
  simp only [List.mem_cons, List.not_mem_nil, or_false] at hi
  rcases hi with rfl | rfl | rfl <;> exact if_neg hno

/-! ## STK_ALLOC and STK_DEALLOC -/

theorem execStkAlloc_of_alloc {s : State} (halloc : s.stk.alloc = true) :
    exec .stkAlloc s = .next (s.finish .invalidArgument) :=
  if_pos halloc

theorem execStkAlloc_of_free {s : State} (hfree : s.stk.alloc = false) :
    exec .stkAlloc s = .next (finishStk (stackAlloc s.params.stackMaxEntries s.arg0.toNat) s) :=
  if_neg (by simp [hfree])

theorem execStkDealloc_of_alloc {s : State} (halloc : s.stk.alloc = true) :
    exec .stkDealloc s = .next ((s.setStk Stack.none).finish .ok) :=
  if_pos halloc

/-! ## STK_PUSH and STK_POP -/

theorem execStkPush_of_alloc {s : State} (halloc : s.stk.alloc = true) :
    exec .stkPush s = .next (finishStk (stackPush s.params.stackMaxEntries s.stk s.arg0) s) :=
  if_pos halloc

theorem execStkPop_of_nil {s : State} (halloc : s.stk.alloc = true) (hentries : s.stk.entries = []) :
    exec .stkPop s = .next (s.finish .notFound) := by
  simp only [exec, execStkPop, halloc, if_true, stackPop_eq_none.2 hentries]

theorem execStkPop_of_cons {s : State} {v : Half} {rest : List Half} (halloc : s.stk.alloc = true)
    (hentries : s.stk.entries = v :: rest) :
    exec .stkPop s =
      .next (((s.setStk ⟨true, s.stk.cap, rest⟩).setResult (v.zeroExtend 32)).finish .ok) := by
  have hpop : stackPop s.stk = some (v, ⟨true, s.stk.cap, rest⟩) :=
    stackPop_eq_some.2 ⟨rest, hentries, by rw [halloc]⟩
  simp only [exec, execStkPop, halloc, if_true, hpop]

/-! ## Pushes and pops in sequence -/

/-- A push that finishes OK found a stack and put ARG0 on top of its entries. -/
theorem entries_of_execStkPush_ok {s u : State} (hexec : exec .stkPush s = .next u) (hok : u.code = .ok) :
    s.stk.alloc = true ∧ u.stk.alloc = true ∧ u.stk.entries = s.arg0 :: s.stk.entries := by
  cases halloc : s.stk.alloc with
  | false =>
    cases (exec_without_stack (by simp) halloc).symm.trans hexec
    cases hok
  | true =>
    cases (execStkPush_of_alloc halloc).symm.trans hexec
    cases hpush : stackPush s.params.stackMaxEntries s.stk s.arg0 with
    | none =>
      rw [hpush] at hok
      cases hok
    | some S =>
      obtain ⟨hS, hentries, -⟩ := stackPush_some hpush
      exact ⟨rfl, hS.trans halloc, hentries⟩

/-- Pushes that all finish OK leave their values on the stack, the last on top; only no push at all can do without a
stack. -/
theorem entries_of_pushesOk {vs : List Half} {s t : State} (h : pushesOk vs s t) :
    (vs = [] ∨ t.stk.alloc = true) ∧ t.stk.entries = vs.reverse ++ s.stk.entries := by
  induction vs generalizing s with
  | nil =>
    obtain rfl : s = t := h
    exact ⟨.inl rfl, rfl⟩
  | cons v vs ih =>
    obtain ⟨u, hexec, hok, hrest⟩ := h
    obtain ⟨-, hu, hpushed⟩ := entries_of_execStkPush_ok hexec hok
    obtain ⟨halloc, hentries⟩ := ih hrest
    refine ⟨.inr ?_, by simp [hentries, hpushed]⟩
    rcases halloc with rfl | halloc
    · obtain rfl : u = t := hrest
      exact hu
    · exact halloc

/-- Pops give the entries from the top down and leave those below. -/
theorem popsGive_of_entries {ws rest : List Half} {t : State} (halloc : ws = [] ∨ t.stk.alloc = true)
    (hentries : t.stk.entries = ws ++ rest) : ∃ u, popsGive ws t u ∧ u.stk.entries = rest := by
  induction ws generalizing t with
  | nil => exact ⟨t, rfl, hentries⟩
  | cons w ws ih =>
    have hpop := execStkPop_of_cons (halloc.resolve_left (List.cons_ne_nil w ws)) hentries
    obtain ⟨u, hpops, hu⟩ :=
      ih (t := ((t.setStk ⟨true, t.stk.cap, ws ++ rest⟩).setResult (w.zeroExtend 32)).finish .ok) (.inr rfl) rfl
    exact ⟨u, ⟨_, hpop, rfl, rfl, hpops⟩, hu⟩

end Sys2Proof.Machine
end

section
/-! SUPPORT. The statements about the host stack commands (43_fill_stack.md R234-R242). -/

namespace Sys2Proof.Machine

open Sys2Proof

/-- Settles O53: by what StackAlloc gives for the capacity asked for. -/
theorem stkAllocAllocatesAnEmptyStack : Obligations.StkAllocAllocatesAnEmptyStack := by
  unfold Obligations.StkAllocAllocatesAnEmptyStack
  refine ⟨decode_encode .stkAlloc, fun s => ⟨execStkAlloc_of_alloc, fun hfree hlarge => ?_, fun hfree hfits => ?_⟩⟩
  · rw [execStkAlloc_of_free hfree, stackAlloc_eq, if_neg (Nat.not_le.2 hlarge)]
    rfl
  · rw [execStkAlloc_of_free hfree, stackAlloc_eq, if_pos hfits]
    rfl

/-- Settles O54: by the two tests of StackPush, whether the stack is full and whether it can double. -/
theorem stkPushDoublesAFullStack : Obligations.StkPushDoublesAFullStack := by
  unfold Obligations.StkPushDoublesAFullStack
  refine ⟨decode_encode .stkPush, fun s => ⟨exec_without_stack (by simp), fun halloc hroom => ?_,
    fun halloc hfull hfits => ?_, fun halloc hfull hlarge => ?_⟩⟩ <;> rw [execStkPush_of_alloc halloc, stackPush]
  · rw [if_neg hroom, halloc]
    rfl
  · rw [if_pos hfull, if_neg (Nat.not_lt.2 hfits), halloc]
    rfl
  · rw [if_pos hfull, if_pos hlarge]
    rfl

/-- Settles O55: by the entries of the stack. -/
theorem stkPopReturnsTheTopEntry : Obligations.StkPopReturnsTheTopEntry := by
  unfold Obligations.StkPopReturnsTheTopEntry
  exact ⟨decode_encode .stkPop, fun s =>
    ⟨exec_without_stack (by simp), execStkPop_of_nil, fun _ _ => execStkPop_of_cons⟩⟩

/-- Settles O56: the record is nulled out. -/
theorem stkDeallocReleasesTheStack : Obligations.StkDeallocReleasesTheStack := by
  unfold Obligations.StkDeallocReleasesTheStack
  exact ⟨decode_encode .stkDealloc, fun s => ⟨exec_without_stack (by simp), execStkDealloc_of_alloc⟩⟩

/-- Settles O57: the pushes leave the values reversed on top of the entries, and the pops give them from the top down. -/
theorem pushedValuesPopInReverse : Obligations.PushedValuesPopInReverse := by
  unfold Obligations.PushedValuesPopInReverse
  intro vs s t hpushes
  obtain ⟨halloc, hentries⟩ := entries_of_pushesOk hpushes
  exact popsGive_of_entries (halloc.imp_left (by rintro rfl; rfl)) hentries

end Sys2Proof.Machine
end

section
/-! SUPPORT. The geometry of a flood fill (43_fill_stack.md R231, R233), apart from the machine: which pixels are still to be
repainted, what a seed's run covers, and the invariant of the walk. -/

namespace Sys2Proof.Machine

open Sys2Proof

variable {s₀ : State} {n : Bool} {seed : Pt} {B : Nat} {owed seeds pts : List Pt}

/-! ## Open pixels and runs -/

/-- The pixel held the match value before the fill and is not among those repainted. -/
def Open (s₀ : State) (n : Bool) (pts : List Pt) (p : Pt) : Prop := pixelGet s₀ p.1 p.2 = some (!n) ∧ p ∉ pts

/-- The seed `p` covers `q`: they are in one row, and every pixel from one to the other is open. -/
def Covers (s₀ : State) (n : Bool) (pts : List Pt) (p q : Pt) : Prop :=
  p.2 = q.2 ∧ ∀ c, min p.1 q.1 ≤ c → c ≤ max p.1 q.1 → Open s₀ n pts (c, p.2)

theorem covers_self_iff {p : Pt} : Covers s₀ n pts p p ↔ Open s₀ n pts p := by
  constructor
  · rintro ⟨-, h⟩
    exact h p.1 (by omega) (by omega)
  · refine fun h => ⟨rfl, fun c hc hc' => ?_⟩
    obtain rfl : c = p.1 := by omega
    exact h

theorem Covers.left {p q : Pt} (h : Covers s₀ n pts p q) : Open s₀ n pts p := by
  obtain ⟨-, h⟩ := h
  exact h p.1 (by omega) (by omega)

theorem Covers.right {p q : Pt} (h : Covers s₀ n pts p q) : Open s₀ n pts q := by
  obtain ⟨hrow, h⟩ := h
  have hq := h q.1 (by omega) (by omega)
  rwa [hrow] at hq

theorem Covers.trans {p q r : Pt} (h : Covers s₀ n pts p q) (h' : Covers s₀ n pts q r) : Covers s₀ n pts p r := by
  obtain ⟨hrow, hpq⟩ := h
  obtain ⟨hrow', hqr⟩ := h'
  refine ⟨hrow.trans hrow', fun c hc hc' => ?_⟩
  by_cases hside : min p.1 q.1 ≤ c ∧ c ≤ max p.1 q.1
  · exact hpq c hside.1 hside.2
  · rw [hrow]
    exact hqr c (by omega) (by omega)

/-- Two open pixels side by side cover each other. -/
theorem covers_of_next {p q : Pt} (hp : Open s₀ n pts p) (hq : Open s₀ n pts q) (hrow : p.2 = q.2)
    (hnext : q.1 = p.1 + 1 ∨ p.1 = q.1 + 1) : Covers s₀ n pts p q := by
  refine ⟨hrow, fun c hc hc' => ?_⟩
  by_cases hleft : c = p.1
  · rw [hleft]
    exact hp
  · obtain rfl : c = q.1 := by omega
    rw [hrow]
    exact hq

theorem open_append_singleton {p q : Pt} : Open s₀ n (pts ++ [p]) q ↔ Open s₀ n pts q ∧ q ≠ p := by
  simp only [Open, List.mem_append, List.mem_singleton, not_or, and_assoc, ne_eq]

/-- Repainting a pixel of another row leaves a run as it was. -/
theorem Covers.append_of_row_ne {p q r : Pt} (h : Covers s₀ n pts p q) (hrow : p.2 ≠ r.2) :
    Covers s₀ n (pts ++ [r]) p q := by
  refine ⟨h.1, fun c hc hc' => open_append_singleton.2 ⟨h.2 c hc hc', ?_⟩⟩
  rintro rfl
  exact hrow rfl

/-- When the leftmost pixel of a run is repainted, whatever its seed or another covered is covered still, or is covered by
the next pixel of the run. -/
theorem Covers.append_leftmost {p r : Pt} {x y : Int} (h : Covers s₀ n pts p r) (hr : r ≠ (x, y))
    (hleft : ¬ Open s₀ n pts (x - 1, y)) :
    Covers s₀ n (pts ++ [(x, y)]) (x + 1, y) r ∨ p ≠ (x, y) ∧ Covers s₀ n (pts ++ [(x, y)]) p r := by
  obtain ⟨hrow, hrun⟩ := h
  by_cases hthrough : p.2 = y ∧ min p.1 r.1 ≤ x ∧ x ≤ max p.1 r.1
  · obtain ⟨rfl, hmin, hmax⟩ := hthrough
    have hne : r.1 ≠ x := fun h => hr (Prod.ext h hrow.symm)
    have hedge : ¬ min p.1 r.1 ≤ x - 1 := fun h => hleft (hrun (x - 1) h (by omega))
    refine .inl ⟨hrow, fun c hc hc' => open_append_singleton.2 ⟨hrun c (by omega) (by omega), ?_⟩⟩
    simp only [ne_eq, Prod.mk.injEq, and_true]
    omega
  · refine .inr ⟨?_, hrow, fun c hc hc' => open_append_singleton.2 ⟨hrun c hc hc', ?_⟩⟩
    · rintro rfl
      exact hthrough ⟨rfl, by omega, by omega⟩
    · rintro h
      obtain ⟨rfl, rfl⟩ := Prod.mk.inj h
      exact hthrough ⟨rfl, hc, hc'⟩

/-! ## Counting the open pixels -/

/-- The open pixels. -/
noncomputable def openPixels (s₀ : State) (n : Bool) (pts : List Pt) : Finset Pt :=
  (Finset.Ico (0 : Int) s₀.fb.columns ×ˢ Finset.Ico (0 : Int) s₀.fb.height).filter
    fun p => pixelGet s₀ p.1 p.2 = some (!n) ∧ p ∉ pts

theorem mem_openPixels {p : Pt} : p ∈ openPixels s₀ n pts ↔ Open s₀ n pts p := by
  simp only [openPixels, Finset.mem_filter, Finset.mem_product, Finset.mem_Ico, Open, and_iff_right_iff_imp]
  rintro ⟨hget, -⟩
  obtain ⟨hx0, hx, hy0, hy⟩ := (inBounds_iff ..).1 (inBounds_of_pixelGet_eq_some hget)
  exact ⟨⟨hx0, hx⟩, hy0, hy⟩

theorem card_openPixels_le (s₀ : State) (n : Bool) (pts : List Pt) :
    (openPixels s₀ n pts).card ≤ s₀.fb.columns * s₀.fb.height := by
  refine (Finset.card_filter_le _ _).trans_eq ?_
  rw [Finset.card_product, Int.card_Ico, Int.card_Ico]
  simp

theorem card_openPixels_append {p : Pt} (h : Open s₀ n pts p) :
    (openPixels s₀ n (pts ++ [p])).card + 1 = (openPixels s₀ n pts).card := by
  have herase : openPixels s₀ n (pts ++ [p]) = (openPixels s₀ n pts).erase p := by
    ext q
    rw [Finset.mem_erase, mem_openPixels, mem_openPixels, open_append_singleton, and_comm]
  rw [herase, Finset.card_erase_add_one (mem_openPixels.2 h)]

/-! ## The walk's invariant -/

/-- The invariant of a fill's walk from `seed`: `pts` are the pixels repainted, `seeds` those on FSTK, and `owed` those that
the walk has still to scan or to push.  The pixels repainted are of the component; a seed is, if it matched; a pixel of the
component next to one repainted is covered by a seed; and `B` bounds the seeds on FSTK with the two that each open pixel may
add. -/
structure FillProgress (s₀ : State) (n : Bool) (seed : Pt) (B : Nat) (owed seeds pts : List Pt) : Prop where
  repainted : ∀ p ∈ pts, Reaches s₀ (!n) seed p
  stacked : ∀ p ∈ seeds, s₀.inBounds p.1 p.2 = true
  reached : ∀ p ∈ owed ++ seeds, pixelGet s₀ p.1 p.2 = some (!n) → Reaches s₀ (!n) seed p
  covered : ∀ q, Open s₀ n pts q → (q = seed ∨ ∃ p ∈ pts, adjacent p q) →
    ∃ p ∈ owed ++ seeds, Covers s₀ n pts p q
  budget : seeds.length + 2 * (openPixels s₀ n pts).card ≤ B

/-- Before the walk nothing is repainted, and the seed is on FSTK. -/
theorem fillProgress_start (n : Bool) (hb : s₀.inBounds seed.1 seed.2 = true) :
    FillProgress s₀ n seed (2 * (s₀.fb.columns * s₀.fb.height) + 1) [] [seed] [] where
  repainted := by simp
  stacked := by simpa using hb
  reached := by simpa using Reaches.seed
  covered := by
    rintro q hq (rfl | ⟨p, hp, -⟩)
    · exact ⟨q, by simp, covers_self_iff.2 hq⟩
    · cases hp
  budget := by
    have hle := card_openPixels_le s₀ n []
    rw [List.length_singleton]
    omega

/-- When no seed is left the whole component is repainted (43_fill_stack.md R233). -/
theorem FillProgress.mem_of_reaches (h : FillProgress s₀ n seed B [] [] pts) {p : Pt} (hp : Reaches s₀ (!n) seed p) :
    p ∈ pts := by
  have hnone (q : Pt) (hget : pixelGet s₀ q.1 q.2 = some (!n)) (hnear : q = seed ∨ ∃ p ∈ pts, adjacent p q) :
      q ∈ pts := by
    by_contra hq
    obtain ⟨r, hr, -⟩ := h.covered q ⟨hget, hq⟩ hnear
    cases hr
  induction hp with
  | seed hget => exact hnone seed hget (.inl rfl)
  | next p q _ hadj hget ih => exact hnone q hget (.inr ⟨p, ih, hadj⟩)

/-- The seeds may be exchanged for others if each open one is covered by one of the others. -/
theorem FillProgress.exchange (h : FillProgress s₀ n seed B owed seeds pts) {B' : Nat} {owed' seeds' : List Pt}
    (hcover : ∀ p ∈ owed ++ seeds, Open s₀ n pts p → ∃ q ∈ owed' ++ seeds', Covers s₀ n pts q p)
    (hreached : ∀ p ∈ owed' ++ seeds', pixelGet s₀ p.1 p.2 = some (!n) → Reaches s₀ (!n) seed p)
    (hstacked : ∀ p ∈ seeds', s₀.inBounds p.1 p.2 = true) (hbudget : seeds'.length + B ≤ seeds.length + B') :
    FillProgress s₀ n seed B' owed' seeds' pts where
  repainted := h.repainted
  stacked := hstacked
  reached := hreached
  covered q hq hnear := by
    obtain ⟨p, hp, hpq⟩ := h.covered q hq hnear
    obtain ⟨r, hr, hrp⟩ := hcover p hp hpq.left
    exact ⟨r, hr, hrp.trans hpq⟩
  budget := by
    have := h.budget
    omega

/-- A seed popped is owed. -/
theorem FillProgress.pop {p : Pt} (h : FillProgress s₀ n seed (B + 1) [] (p :: seeds) pts) :
    FillProgress s₀ n seed B [p] seeds pts :=
  h.exchange (fun q hq hopen => ⟨q, hq, covers_self_iff.2 hopen⟩) h.reached
    (fun q hq => h.stacked q (List.mem_cons_of_mem p hq)) (by rw [List.length_cons]; omega)

/-- A seed owed is pushed. -/
theorem FillProgress.push {p : Pt} (h : FillProgress s₀ n seed B (p :: owed) seeds pts)
    (hb : s₀.inBounds p.1 p.2 = true) : FillProgress s₀ n seed (B + 1) owed (p :: seeds) pts := by
  have hperm : ∀ q, q ∈ owed ++ p :: seeds ↔ q ∈ p :: owed ++ seeds := fun q => List.perm_middle.mem_iff
  refine h.exchange (fun q hq hopen => ⟨q, (hperm q).2 hq, covers_self_iff.2 hopen⟩)
    (fun q hq => h.reached q ((hperm q).1 hq)) (fun q hq => ?_) (by rw [List.length_cons]; omega)
  rcases List.mem_cons.1 hq with rfl | hq
  · exact hb
  · exact h.stacked q hq

/-- A seed owed may be dropped if its pixel is not open, or if a seed on FSTK covers it. -/
theorem FillProgress.drop {p : Pt} {B' : Nat} (h : FillProgress s₀ n seed B (p :: owed) seeds pts) (hB : B ≤ B')
    (hp : Open s₀ n pts p → ∃ q ∈ seeds, Covers s₀ n pts q p) : FillProgress s₀ n seed B' owed seeds pts := by
  refine h.exchange (fun q hq hopen => ?_) (fun q hq => h.reached q (List.mem_cons_of_mem p hq)) h.stacked (by omega)
  rcases List.mem_cons.1 hq with rfl | hq
  · obtain ⟨r, hr, hrq⟩ := hp hopen
    exact ⟨r, List.mem_append_right owed hr, hrq⟩
  · exact ⟨q, hq, covers_self_iff.2 hopen⟩

/-- The scan to the left: an open seed owed may be moved to the open pixel on its left. -/
theorem FillProgress.moveLeft {x y : Int} (h : FillProgress s₀ n seed B [(x, y)] seeds pts)
    (hopen : Open s₀ n pts (x, y)) (hleft : Open s₀ n pts (x - 1, y)) :
    FillProgress s₀ n seed B [(x - 1, y)] seeds pts := by
  have hcovers : Covers s₀ n pts (x - 1, y) (x, y) := covers_of_next hleft hopen rfl (.inl (by simp))
  refine h.exchange (fun q hq hq' => ?_) (fun q hq hget => ?_) h.stacked (by omega)
  · rcases List.mem_cons.1 hq with rfl | hq
    · exact ⟨_, List.mem_cons_self, hcovers⟩
    · exact ⟨q, List.mem_cons_of_mem _ hq, covers_self_iff.2 hq'⟩
  · rcases List.mem_cons.1 hq with rfl | hq
    · exact .next (x, y) _ (h.reached _ List.mem_cons_self hopen.1) (.inr ⟨rfl, .inr (by simp)⟩) hget
    · exact h.reached q (List.mem_cons_of_mem _ hq) hget

/-- A pixel repainted at the left edge of its run: the pixels above, below and to the right of it are owed. -/
theorem FillProgress.paint {x y : Int} (h : FillProgress s₀ n seed (B + 2) [(x, y)] seeds pts)
    (hopen : Open s₀ n pts (x, y)) (hleft : ¬ Open s₀ n pts (x - 1, y)) :
    FillProgress s₀ n seed B [(x, y - 1), (x, y + 1), (x + 1, y)] seeds (pts ++ [(x, y)]) := by
  have hreaches : Reaches s₀ (!n) seed (x, y) := h.reached _ List.mem_cons_self hopen.1
  refine ⟨fun p hp => ?_, h.stacked, fun p hp hget => ?_, fun q hq hnear => ?_, ?_⟩
  · rcases List.mem_append.1 hp with hp | hp
    · exact h.repainted p hp
    · rwa [List.mem_singleton.1 hp]
  · rcases List.mem_append.1 hp with hp | hp
    · refine .next (x, y) p hreaches ?_ hget
      simp only [List.mem_cons, List.not_mem_nil, or_false] at hp
      rcases hp with rfl | rfl | rfl <;> simp [adjacent]
    · exact h.reached p (List.mem_cons_of_mem _ hp) hget
  · obtain ⟨hq', hne⟩ := open_append_singleton.1 hq
    by_cases hbefore : q = seed ∨ ∃ p ∈ pts, adjacent p q
    · obtain ⟨p, hp, hpq⟩ := h.covered q hq' hbefore
      rcases hpq.append_leftmost hne hleft with hcovers | ⟨hp', hcovers⟩
      · exact ⟨_, by simp, hcovers⟩
      · exact ⟨p, List.mem_append_right _ ((List.mem_cons.1 hp).resolve_left hp'), hcovers⟩
    · have hadj : adjacent (x, y) q := by
        obtain hq | ⟨p, hp, hadj⟩ := hnear
        · exact absurd (.inl hq) hbefore
        · rcases List.mem_append.1 hp with hp | hp
          · exact absurd (.inr ⟨p, hp, hadj⟩) hbefore
          · rwa [List.mem_singleton.1 hp] at hadj
      refine ⟨q, List.mem_append_left _ ?_, covers_self_iff.2 hq⟩
      have hnotleft : q ≠ (x - 1, y) := by
        rintro rfl
        exact hleft hq'
      obtain ⟨qx, qy⟩ := q
      simp only [adjacent] at hadj
      simp only [ne_eq, Prod.mk.injEq, List.mem_cons, List.not_mem_nil, or_false] at hnotleft ⊢
      omega
  · have hbudget := h.budget
    have hcard := card_openPixels_append hopen
    omega

end Sys2Proof.Machine
end

section
/-! SUPPORT. What the flood-fill engine does (43_fill_stack.md R230, R231, R235): its state at each point of the walk is the
framebuffer with some pixels plotted, and FSTK with some seeds; each procedure keeps the walk's invariant or runs out of
room. -/

namespace Sys2Proof.Machine

open Sys2Proof

/-! ## Pixels and FSTK -/

@[simp] theorem pixelGet_setFstk (s : State) (S : Stack) (x y : Int) : pixelGet (s.setFstk S) x y = pixelGet s x y := rfl

theorem pixelFlipped_setFstk (s : State) (S : Stack) (x y : Int) (v : Bool) :
    pixelFlipped (s.setFstk S) x y v = (pixelFlipped s x y v).setFstk S := by
  unfold pixelFlipped State.markDirty
  rw [apply_ite (fun t : State => t.setFstk S)]
  rfl

/-- A pixel write does not look at FSTK. -/
theorem pixelSet_setFstk (s : State) (S : Stack) (x y : Int) (v : Bool) :
    (pixelSet (s.setFstk S) x y v).1 = (pixelSet s x y v).1.setFstk S := by
  by_cases hb : s.inBounds x y = true
  · by_cases hbit : (s.tile (s.tileIndex x y)).getLsbD (y.toNat % 8) = v
    · rw [pixelSet_of_same hb hbit, pixelSet_of_same (s := s.setFstk S) hb hbit]
    · rw [pixelSet_of_other hb hbit, pixelSet_of_other (s := s.setFstk S) hb hbit, pixelFlipped_setFstk]
  · rw [pixelSet_of_not_inBounds hb, pixelSet_of_not_inBounds (s := s.setFstk S) hb]

theorem plotAll_append_singleton (v : Bool) (pts : List Pt) (p : Pt) (s : State) :
    plotAll v (pts ++ [p]) s = (pixelSet (plotAll v pts s) p.1 p.2 v).1 := by
  induction pts generalizing s with
  | nil => rfl
  | cons q qs ih => exact ih _

@[simp] theorem plotAll_params (v : Bool) (pts : List Pt) (s : State) : (plotAll v pts s).params = s.params := by
  obtain ⟨⟨_, _, _, _, h⟩, -⟩ := pixelWork_plotAll v pts s
  rw [h]

/-! ## Pushing a seed -/

/-- One push on FSTK: the value is on top, or there is no room to double FSTK. -/
theorem pushSeedEntry_cases (v : Half) (s : State) :
    (∃ S, pushSeedEntry v s = (s.setFstk S, .ok) ∧ S.entries = v :: s.fstk.entries) ∨
    (pushSeedEntry v s = (s, .outOfMemory) ∧ s.params.stackMaxEntries < 2 * s.fstk.count) := by
  unfold pushSeedEntry
  rcases stackPush_cases s.params.stackMaxEntries s.fstk v with ⟨hfull, hlarge, h⟩ | ⟨-, -, h⟩ | ⟨-, h⟩ <;> rw [h]
  · exact .inr ⟨rfl, hfull ▸ hlarge⟩
  · exact .inl ⟨_, rfl, rfl⟩
  · exact .inl ⟨_, rfl, rfl⟩

/-- `Push2`: the seed is on top, its `y` above its `x`, or there is no room to double FSTK with the one or the other. -/
theorem pushSeed_cases (x y : Int) (s : State) :
    (∃ S, pushSeed x y s = (s.setFstk S, .ok) ∧
      S.entries = BitVec.ofInt 16 y :: BitVec.ofInt 16 x :: s.fstk.entries) ∨
    (∃ S, pushSeed x y s = (s.setFstk S, .outOfMemory) ∧ s.params.stackMaxEntries < 2 * (s.fstk.count + 1)) := by
  unfold pushSeed
  rcases pushSeedEntry_cases (BitVec.ofInt 16 x) s with ⟨S, hx, hentries⟩ | ⟨hx, hlarge⟩
  · rcases pushSeedEntry_cases (BitVec.ofInt 16 y) (s.setFstk S) with ⟨T, hy, hentries'⟩ | ⟨hy, hlarge⟩
    · exact .inl ⟨T, by simp only [hx, hy]; rfl, by rw [hentries', setFstk_fstk, hentries]⟩
    · refine .inr ⟨S, by simp only [hx, hy], ?_⟩
      simpa only [setFstk_params, setFstk_fstk, Stack.count, hentries, List.length_cons] using hlarge
  · exact .inr ⟨s.fstk, by simp only [hx]; rfl, by omega⟩

/-! ## The state of a walk -/

/-- The entries of FSTK that hold the seeds, the seed on top first (43_fill_stack.md R230). -/
def seedEntries (seeds : List Pt) : List Half := seeds.flatMap fun p => [BitVec.ofInt 16 p.2, BitVec.ofInt 16 p.1]

theorem seedEntries_cons (p : Pt) (seeds : List Pt) :
    seedEntries (p :: seeds) = BitVec.ofInt 16 p.2 :: BitVec.ofInt 16 p.1 :: seedEntries seeds := rfl

theorem length_seedEntries (seeds : List Pt) : (seedEntries seeds).length = 2 * seeds.length := by
  induction seeds with
  | nil => rfl
  | cons p ps ih => rw [seedEntries_cons, List.length_cons, List.length_cons, List.length_cons, ih]; omega

/-- `s` is `s₀` with the pixels `pts` given the value `n` and the seeds on FSTK. -/
def FillState (s₀ : State) (n : Bool) (seeds pts : List Pt) (s : State) : Prop :=
  ∃ S : Stack, s = (plotAll n pts s₀).setFstk S ∧ S.entries = seedEntries seeds

section Walk

variable {s₀ s : State} {n : Bool} {seed : Pt} {B : Nat} {owed seeds pts : List Pt}

theorem FillState.inBounds (hs : FillState s₀ n seeds pts s) (x y : Int) : s.inBounds x y = s₀.inBounds x y := by
  obtain ⟨S, rfl, -⟩ := hs
  exact plotAll_inBounds n pts s₀ x y

theorem FillState.columns (hs : FillState s₀ n seeds pts s) : s.fb.columns = s₀.fb.columns := by
  obtain ⟨S, rfl, -⟩ := hs
  rw [setFstk_fb, plotAll_fb_geometry]

/-- The pixels that still match are the open ones. -/
theorem FillState.pixelGet_iff (hs : FillState s₀ n seeds pts s) {x y : Int} :
    pixelGet s x y = some (!n) ↔ Open s₀ n pts (x, y) := by
  obtain ⟨S, rfl, -⟩ := hs
  rw [pixelGet_setFstk, pixelGet_plotAll_eq_not, and_comm]
  rfl

theorem FillState.pixelSet (hs : FillState s₀ n seeds pts s) (x y : Int) :
    FillState s₀ n seeds (pts ++ [(x, y)]) (pixelSet s x y n).1 := by
  obtain ⟨S, rfl, hentries⟩ := hs
  exact ⟨S, by rw [pixelSet_setFstk, plotAll_append_singleton], hentries⟩

/-- Popping FSTK twice gives the seed on top (43_fill_stack.md R231). -/
theorem FillState.pop {p : Pt} (hs : FillState s₀ n (p :: seeds) pts s) :
    ∃ S₁ S₂, stackPop s.fstk = some (BitVec.ofInt 16 p.2, S₁) ∧ stackPop S₁ = some (BitVec.ofInt 16 p.1, S₂) ∧
      FillState s₀ n seeds pts (s.setFstk S₂) := by
  obtain ⟨S, rfl, hentries⟩ := hs
  exact ⟨_, _, stackPop_eq_some.2 ⟨_, hentries, rfl⟩, stackPop_eq_some.2 ⟨_, rfl, rfl⟩, _, rfl, rfl⟩

/-! ## The outcomes of a procedure -/

/-- A procedure of the walk ran out of room, which takes a limit below four entries a seed: some pixels of the component are
repainted. -/
def FillFails (s₀ : State) (n : Bool) (seed : Pt) (B : Nat) (r : State × Status) : Prop :=
  r.2 = .outOfMemory ∧ s₀.params.stackMaxEntries < 4 * B ∧
    ∃ pts S, (∀ p ∈ pts, Reaches s₀ (!n) seed p) ∧ r.1 = (plotAll n pts s₀).setFstk S

theorem FillFails.mono {B' : Nat} {r : State × Status} (h : FillFails s₀ n seed B r) (hB : B ≤ B') :
    FillFails s₀ n seed B' r := by
  obtain ⟨hcode, hroom, hpts⟩ := h
  exact ⟨hcode, by omega, hpts⟩

/-- A procedure of the walk finished OK with no seed owed. -/
def FillGoesOn (s₀ : State) (n : Bool) (seed : Pt) (B : Nat) (r : State × Status) : Prop :=
  r.2 = .ok ∧ ∃ seeds pts, FillState s₀ n seeds pts r.1 ∧ FillProgress s₀ n seed B [] seeds pts

/-- Pushing a seed owed. -/
theorem pushSeed_spec {x y : Int} (h : FillProgress s₀ n seed B ((x, y) :: owed) seeds pts)
    (hs : FillState s₀ n seeds pts s) (hb : s₀.inBounds x y = true) :
    ((pushSeed x y s).2 = .ok ∧ FillState s₀ n ((x, y) :: seeds) pts (pushSeed x y s).1 ∧
      FillProgress s₀ n seed (B + 1) owed ((x, y) :: seeds) pts) ∨
    FillFails s₀ n seed (B + 1) (pushSeed x y s) := by
  obtain ⟨S, rfl, hentries⟩ := hs
  rcases pushSeed_cases x y ((plotAll n pts s₀).setFstk S) with ⟨T, hpush, hT⟩ | ⟨T, hpush, hlarge⟩ <;> rw [hpush]
  · exact .inl ⟨rfl, ⟨T, rfl, by rw [hT, setFstk_fstk, hentries, seedEntries_cons]⟩, h.push hb⟩
  · refine .inr ⟨rfl, ?_, pts, T, h.repainted, rfl⟩
    have hbudget := h.budget
    simp only [setFstk_params, plotAll_params, setFstk_fstk, Stack.count, hentries, length_seedEntries] at hlarge
    omega

/-! ## The sides of a scan -/

/-- What a "push next valid" latch remembers: while it is set, a seed on FSTK covers the pixel of its row last looked at. -/
def Latched (s₀ : State) (n : Bool) (seeds pts : List Pt) (latch : Bool) (p : Pt) : Prop :=
  latch = true → ∃ q ∈ seeds, Covers s₀ n pts q p

/-- One side of the scan: at the buffer's edge nothing happens; a pixel that does not match resets the latch; one that does
is pushed, unless the latch is set (43_fill_stack.md R231). -/
theorem fillSide_cases (m : Bool) (x yy : Int) (latch : Bool) (s : State) :
    (pixelGet s x yy = none ∧ fillSide m x yy latch s = ((s, .ok), latch)) ∨
    (pixelGet s x yy = some (!m) ∧ fillSide m x yy latch s = ((s, .ok), false)) ∨
    (pixelGet s x yy = some m ∧ latch = true ∧ fillSide m x yy latch s = ((s, .ok), true)) ∨
    (pixelGet s x yy = some m ∧ latch = false ∧ fillSide m x yy latch s = (pushSeed x yy s, true)) := by
  unfold fillSide
  cases pixelGet s x yy with
  | none => simp
  | some u =>
    by_cases hu : u = m
    · cases latch <;> simp [hu]
    · simp [Bool.eq_not.2 hu]

/-- One side of the scan at column `x`: the pixel there needs no seed of its own any more, or there was no room. -/
theorem fillSide_spec {x yy : Int} {latch : Bool} (h : FillProgress s₀ n seed B ((x, yy) :: owed) seeds pts)
    (hs : FillState s₀ n seeds pts s) (hx : 0 ≤ x ∧ x < s₀.fb.columns)
    (hlatch : Latched s₀ n seeds pts latch (x - 1, yy)) :
    ((fillSide (!n) x yy latch s).1.2 = .ok ∧ ∃ seeds', seeds ⊆ seeds' ∧
      FillState s₀ n seeds' pts (fillSide (!n) x yy latch s).1.1 ∧ FillProgress s₀ n seed (B + 1) owed seeds' pts ∧
      Latched s₀ n seeds' pts (fillSide (!n) x yy latch s).2 (x, yy)) ∨
    FillFails s₀ n seed (B + 1) (fillSide (!n) x yy latch s).1 := by
  have hdrop (hcovered : Open s₀ n pts (x, yy) → ∃ q ∈ seeds, Covers s₀ n pts q (x, yy)) :=
    h.drop (Nat.le_succ B) hcovered
  have hopen := hs.pixelGet_iff (x := x) (y := yy)
  rcases fillSide_cases (!n) x yy latch s with ⟨hget, hside⟩ | ⟨hget, hside⟩ | ⟨hget, rfl, hside⟩ | ⟨hget, -, hside⟩ <;>
    rw [hside]
  · have hclosed : ¬ Open s₀ n pts (x, yy) := by simp [← hopen, hget]
    refine .inl ⟨rfl, seeds, List.Subset.refl _, hs, hdrop fun ho => absurd ho hclosed, fun hset => ?_⟩
    obtain ⟨p, -, hp⟩ := hlatch hset
    obtain ⟨-, -, hy0, hy⟩ := (inBounds_iff ..).1 (inBounds_of_pixelGet_eq_some hp.right.1)
    have hb : s.inBounds x yy = true := (hs.inBounds x yy).trans ((inBounds_iff ..).2 ⟨hx.1, hx.2, hy0, hy⟩)
    cases (pixelGet_of_inBounds hb).symm.trans hget
  · have hclosed : ¬ Open s₀ n pts (x, yy) := by simp [← hopen, hget]
    exact .inl ⟨rfl, seeds, List.Subset.refl _, hs, hdrop fun ho => absurd ho hclosed, fun hset => by cases hset⟩
  · have hcovered : ∃ q ∈ seeds, Covers s₀ n pts q (x, yy) := by
      obtain ⟨q, hq, hcovers⟩ := hlatch rfl
      exact ⟨q, hq, hcovers.trans (covers_of_next hcovers.right (hopen.1 hget) rfl (.inl (by simp)))⟩
    exact .inl ⟨rfl, seeds, List.Subset.refl _, hs, hdrop fun _ => hcovered, fun _ => hcovered⟩
  · have ho := hopen.1 hget
    refine (pushSeed_spec h hs (inBounds_of_pixelGet_eq_some ho.1)).imp_left ?_
    rintro ⟨hok, hs', h'⟩
    exact ⟨hok, _, List.subset_cons_self _ _, hs', h', fun _ => ⟨_, List.mem_cons_self, covers_self_iff.2 ho⟩⟩

/-! ## The scans -/

/-- The scan to the left moves an open seed owed to the left edge of its run. -/
theorem scanLeft_spec {k : Nat} {x y : Int} (h : FillProgress s₀ n seed B [(x, y)] seeds pts)
    (hs : FillState s₀ n seeds pts s) (hopen : Open s₀ n pts (x, y)) (hk : x ≤ k) :
    FillProgress s₀ n seed B [(scanLeft (!n) y s k x, y)] seeds pts ∧
      Open s₀ n pts (scanLeft (!n) y s k x, y) ∧ ¬ Open s₀ n pts (scanLeft (!n) y s k x - 1, y) := by
  induction k generalizing x with
  | zero =>
    refine ⟨h, hopen, fun hleft => ?_⟩
    obtain ⟨hx0, -⟩ := (inBounds_iff ..).1 (inBounds_of_pixelGet_eq_some hleft.1)
    simp only [scanLeft] at hx0
    omega
  | succ k ih =>
    unfold scanLeft
    split
    · rename_i hget
      have hleft := hs.pixelGet_iff.1 hget
      exact ih (h.moveLeft hopen hleft) hleft (by omega)
    · rename_i hget
      exact ⟨h, hopen, fun hleft => hget (hs.pixelGet_iff.2 hleft)⟩

theorem scanRight_of_ne {m : Bool} {x y : Int} (hget : pixelGet s x y ≠ some m) (k : Nat) (above below : Bool) :
    scanRight m n y k x above below s = (s, .ok) := by
  cases k with
  | zero => rfl
  | succ k => exact if_neg hget

/-- Repainting a pixel of another row leaves a latch right. -/
theorem Latched.append_of_row_ne {latch : Bool} {p r : Pt} (h : Latched s₀ n seeds pts latch p) (hrow : p.2 ≠ r.2) :
    Latched s₀ n seeds (pts ++ [r]) latch p := fun hset => by
  obtain ⟨q, hq, hcovers⟩ := h hset
  exact ⟨q, hq, hcovers.append_of_row_ne (hcovers.1 ▸ hrow)⟩

/-- More seeds leave a latch right. -/
theorem Latched.mono {latch : Bool} {p : Pt} {seeds' : List Pt} (h : Latched s₀ n seeds pts latch p)
    (hsub : seeds ⊆ seeds') : Latched s₀ n seeds' pts latch p := fun hset => by
  obtain ⟨q, hq, hcovers⟩ := h hset
  exact ⟨q, hsub hq, hcovers⟩

/-- The scan to the right from the left edge of a run repaints the run, which leaves no seed owed, or runs out of room. -/
theorem scanRight_spec {k : Nat} {x y : Int} {above below : Bool} (h : FillProgress s₀ n seed B [(x, y)] seeds pts)
    (hs : FillState s₀ n seeds pts s) (hleft : ¬ Open s₀ n pts (x - 1, y)) (hk : s₀.fb.columns ≤ x + k)
    (habove : Latched s₀ n seeds pts above (x - 1, y - 1)) (hbelow : Latched s₀ n seeds pts below (x - 1, y + 1)) :
    FillGoesOn s₀ n seed B (scanRight (!n) n y k x above below s) ∨
      FillFails s₀ n seed B (scanRight (!n) n y k x above below s) := by
  induction k generalizing B x above below seeds pts s with
  | zero =>
    have hclosed : ¬ Open s₀ n pts (x, y) := fun ho => by
      obtain ⟨-, hx, -⟩ := (inBounds_iff ..).1 (inBounds_of_pixelGet_eq_some ho.1)
      simp only at hx
      omega
    exact .inl ⟨rfl, seeds, pts, hs, h.drop le_rfl fun ho => absurd ho hclosed⟩
  | succ k ih =>
    by_cases hopen : Open s₀ n pts (x, y)
    · obtain ⟨hx0, hx, -⟩ := (inBounds_iff ..).1 (inBounds_of_pixelGet_eq_some hopen.1)
      obtain ⟨B, rfl⟩ : ∃ B', B = B' + 2 := ⟨B - 2, by
        have hbudget := h.budget
        have hcard := card_openPixels_append hopen
        omega⟩
      rw [scanRight, if_pos (hs.pixelGet_iff.2 hopen)]
      dsimp only
      have hpaint := h.paint hopen hleft
      have hs' := hs.pixelSet x y
      have habove := habove.append_of_row_ne (r := (x, y)) (by simp)
      have hbelow := hbelow.append_of_row_ne (r := (x, y)) (by simp)
      rcases fillSide_spec hpaint hs' ⟨hx0, hx⟩ habove with ⟨hok, seeds₁, hsub₁, hs₁, h₁, habove₁⟩ | hfail
      · simp only [hok]
        rcases fillSide_spec h₁ hs₁ ⟨hx0, hx⟩ (hbelow.mono hsub₁) with ⟨hok, seeds₂, hsub₂, hs₂, h₂, hbelow₂⟩ | hfail
        · simp only [hok]
          refine ih h₂ hs₂ ?_ (by omega) ?_ ?_
          · rw [add_sub_cancel_right, open_append_singleton]
            simp
          · rw [add_sub_cancel_right]
            exact habove₁.mono hsub₂
          · rw [add_sub_cancel_right]
            exact hbelow₂
        · simp only [hfail.1]
          exact .inr hfail
      · simp only [hfail.1]
        exact .inr (hfail.mono (Nat.le_succ _))
    · rw [scanRight_of_ne (mt hs.pixelGet_iff.1 hopen)]
      exact .inl ⟨rfl, seeds, pts, hs, h.drop le_rfl fun ho => absurd ho hopen⟩

/-- The run of a popped seed is repainted, if its pixel is open, or there is no room. -/
theorem fillSeed_spec {x y : Int} (h : FillProgress s₀ n seed B [(x, y)] seeds pts) (hs : FillState s₀ n seeds pts s) :
    FillGoesOn s₀ n seed B (fillSeed (!n) n x y s) ∨ FillFails s₀ n seed B (fillSeed (!n) n x y s) := by
  unfold fillSeed
  split
  · rename_i hget
    have hopen := hs.pixelGet_iff.1 hget
    obtain ⟨-, hx, -⟩ := (inBounds_iff ..).1 (inBounds_of_pixelGet_eq_some hopen.1)
    obtain ⟨h', hedge, hleft⟩ := scanLeft_spec h hs hopen (k := s.fb.columns) (by rw [hs.columns]; omega)
    obtain ⟨hx0, -⟩ := (inBounds_iff ..).1 (inBounds_of_pixelGet_eq_some hedge.1)
    rw [hs.columns] at h' hedge hleft hx0 ⊢
    exact scanRight_spec h' hs hleft (by simp only at hx0; omega) (fun hset => by cases hset) fun hset => by cases hset
  · rename_i hget
    exact .inl ⟨rfl, seeds, pts, hs, h.drop le_rfl fun ho => absurd (hs.pixelGet_iff.2 ho) hget⟩

/-! ## The outer loop -/

theorem ofInt_toNat_of_lt {c : Int} (h0 : 0 ≤ c) (h : c < 65536) : ((BitVec.ofInt 16 c).toNat : Int) = c := by
  rw [BitVec.toNat_ofInt]
  omega

/-- The coordinates of a seed on FSTK survive the 16 bits of their entries (43_fill_stack.md R230). -/
theorem FillProgress.seed_roundtrip {p : Pt} (h : FillProgress s₀ n seed B owed (p :: seeds) pts)
    (hdims : s₀.fb.columns ≤ maxDim ∧ s₀.fb.height ≤ maxDim) :
    (((BitVec.ofInt 16 p.1).toNat : Int), ((BitVec.ofInt 16 p.2).toNat : Int)) = p := by
  obtain ⟨hx0, hx, hy0, hy⟩ := (inBounds_iff ..).1 (h.stacked p List.mem_cons_self)
  obtain ⟨hcolumns, hheight⟩ := hdims
  unfold maxDim at hcolumns hheight
  rw [ofInt_toNat_of_lt hx0 (by omega), ofInt_toNat_of_lt hy0 (by omega)]

/-- The outer loop, given more iterations than the budget of seeds, repaints the seed's component, or runs out of room. -/
theorem fillLoop_spec {k : Nat} (h : FillProgress s₀ n seed B [] seeds pts) (hs : FillState s₀ n seeds pts s)
    (hdims : s₀.fb.columns ≤ maxDim ∧ s₀.fb.height ≤ maxDim) (hk : B < k) :
    ((fillLoop (!n) n k s).2 = .ok ∧ ∃ pts' T, (fillLoop (!n) n k s).1 = (plotAll n pts' s₀).setFstk T ∧
      ∀ p, p ∈ pts' ↔ Reaches s₀ (!n) seed p) ∨
    FillFails s₀ n seed B (fillLoop (!n) n k s) := by
  induction k generalizing B seeds pts s with
  | zero => omega
  | succ k ih =>
    cases seeds with
    | nil =>
      obtain ⟨S, hS, hentries⟩ := hs
      have hempty : stackPop s.fstk = none := stackPop_eq_none.2 (by rw [hS]; exact hentries)
      rw [fillLoop, hempty]
      exact .inl ⟨rfl, pts, S, hS, fun p => ⟨h.repainted p, h.mem_of_reaches⟩⟩
    | cons p seeds =>
      obtain ⟨B, rfl⟩ : ∃ B', B = B' + 1 := ⟨B - 1, by
        have hbudget := h.budget
        rw [List.length_cons] at hbudget
        omega⟩
      obtain ⟨S₁, S₂, hpopY, hpopX, hs'⟩ := hs.pop
      obtain ⟨hx, hy⟩ := Prod.mk.inj (h.seed_roundtrip hdims)
      simp only [fillLoop, hpopY, hpopX, hx, hy]
      rcases fillSeed_spec h.pop hs' with ⟨hok, seeds', pts', hs'', h'⟩ | hfail
      · simp only [hok]
        exact (ih h' hs'' (by omega)).imp_right fun hfail => hfail.mono (Nat.le_succ B)
      · simp only [hfail.1]
        exact .inr (hfail.mono (Nat.le_succ B))

end Walk

/-- The walk of a fill plots pixels of the seed's component: all of them if it finishes OK, and it runs out of room only with
a limit below four entries for the seed and for two seeds a pixel (43_fill_stack.md R233). -/
theorem fillWalk_spec {s : State} {x y : Int} {S : Stack} (n : Bool) (hb : s.inBounds x y = true)
    (hdims : s.fb.columns ≤ maxDim ∧ s.fb.height ≤ maxDim) (hS : S.entries = []) :
    ∃ pts T, (fillWalk x y (!n) n (s.setFstk S)).1 = (plotAll n pts s).setFstk T ∧
      (∀ p ∈ pts, Reaches s (!n) (x, y) p) ∧
      (((fillWalk x y (!n) n (s.setFstk S)).2 = .ok ∧ ∀ p, Reaches s (!n) (x, y) p → p ∈ pts) ∨
        ((fillWalk x y (!n) n (s.setFstk S)).2 = .outOfMemory ∧
          s.params.stackMaxEntries < 4 * (2 * (s.fb.columns * s.fb.height) + 1))) := by
  have hstart := fillProgress_start (seed := (x, y)) n hb
  have hfuel : 2 * (s.fb.columns * s.fb.height) + 1 < fillSteps (s.setFstk S) := Nat.lt_succ_self _
  rcases pushSeed_cases x y (s.setFstk S) with ⟨T, hpush, hT⟩ | ⟨T, hpush, hlarge⟩
  · have hs : FillState s n [(x, y)] [] (s.setFstk T) := ⟨T, rfl, by rw [hT, setFstk_fstk, hS]; rfl⟩
    have hwalk : fillWalk x y (!n) n (s.setFstk S) = fillLoop (!n) n (fillSteps (s.setFstk S)) (s.setFstk T) := by
      simp only [fillWalk, hpush]
      rfl
    rw [hwalk]
    rcases fillLoop_spec hstart hs hdims hfuel with
      ⟨hok, pts, T', hstate, hpts⟩ | ⟨hcode, hroom, pts, T', hpts, hstate⟩
    · exact ⟨pts, T', hstate, fun p => (hpts p).1, .inl ⟨hok, fun p => (hpts p).2⟩⟩
    · exact ⟨pts, T', hstate, hpts, .inr ⟨hcode, hroom⟩⟩
  · have hwalk : fillWalk x y (!n) n (s.setFstk S) = (s.setFstk T, .outOfMemory) := by
      simp only [fillWalk, hpush]
      rfl
    rw [hwalk]
    refine ⟨[], T, rfl, by simp, .inr ⟨rfl, ?_⟩⟩
    simp only [setFstk_params, setFstk_fstk, Stack.count, hS, List.length_nil] at hlarge
    omega

end Sys2Proof.Machine
end

section
/-! SUPPORT. What DRAW_FILL does (43_fill_stack.md R231, R232), and the statements about it. -/

namespace Sys2Proof.Machine

open Sys2Proof

/-! ## Where a fill ends before its walk -/

theorem exec_drawFill_of_alloc {s : State} (halloc : s.fb.alloc = true) (v m : Bool) :
    exec (.drawFill v m) s = .next (fill (s.s16 0) (s.s16 1) m v s) :=
  if_pos halloc

theorem fill_of_none {s : State} {x y : Int} (hget : pixelGet s x y = none) (m n : Bool) :
    fill x y m n s = s.finish .outOfBounds :=
  if_pos hget

theorem fill_of_same {s : State} {x y : Int} (hget : pixelGet s x y ≠ none) (n : Bool) :
    fill x y n n s = s.finish .ok := by
  rw [fill, if_neg hget, if_pos rfl]

theorem fill_of_no_stack {s : State} {x y : Int} {m n : Bool} (hget : pixelGet s x y ≠ none) (hne : m ≠ n)
    (hlarge : s.params.stackMaxEntries < max 1 s.params.fillStackInitCapacity) :
    fill x y m n s = s.finish .outOfMemory := by
  rw [fill, if_neg hget, if_neg hne, stackAlloc_eq, if_neg (Nat.not_le.2 hlarge)]

/-- A fill with room for FSTK is its walk from an empty stack, FSTK released after it. -/
theorem fill_of_stack {s : State} {x y : Int} {m n : Bool} (hget : pixelGet s x y ≠ none) (hne : m ≠ n)
    (hfits : max 1 s.params.fillStackInitCapacity ≤ s.params.stackMaxEntries) :
    ∃ S : Stack, S.entries = [] ∧
      fill x y m n s =
        ((fillWalk x y m n (s.setFstk S)).1.setFstk Stack.none).finish (fillWalk x y m n (s.setFstk S)).2 := by
  refine ⟨⟨true, max 1 s.params.fillStackInitCapacity, []⟩, rfl, ?_⟩
  rw [fill, if_neg hget, if_neg hne, stackAlloc_eq, if_pos hfits]
  rfl

/-! ## The pixels a fill repaints -/

theorem setFstk_eq_self {s : State} {S : Stack} (h : s.fstk = S) : s.setFstk S = s := by
  subst h
  rfl

/-- Plotting leaves every pixel that is not among the points. -/
theorem pixelGet_plotAll_of_not_mem {v : Bool} {pts : List Pt} {s : State} {x y : Int} (h : (x, y) ∉ pts) :
    pixelGet (plotAll v pts s) x y = pixelGet s x y := by
  induction pts generalizing s with
  | nil => rfl
  | cons p ps ih =>
    obtain ⟨hp, hps⟩ := not_or.1 (mt List.mem_cons.2 h)
    rw [plotAll, ih hps]
    by_cases hb : s.inBounds p.1 p.2 = true
    · exact pixelGet_pixelSet_other hb v hp
    · rw [pixelSet_of_not_inBounds hb]

theorem Reaches.pixelGet_eq {s : State} {m : Bool} {seed p : Pt} (h : Reaches s m seed p) :
    pixelGet s p.1 p.2 = some m := by
  cases h with
  | seed hget => exact hget
  | next _ _ _ _ hget => exact hget

/-- A seed that does not match has no component. -/
theorem Reaches.pixelGet_seed {s : State} {m : Bool} {seed p : Pt} (h : Reaches s m seed p) :
    pixelGet s seed.1 seed.2 = some m := by
  induction h with
  | seed hget => exact hget
  | next _ _ _ _ _ ih => exact ih

/-- DRAW_FILL with a framebuffer plots pixels of the seed's component.  It finishes OUT_OF_BOUNDS with the seed outside, OK
with the whole component plotted, or OUT_OF_MEMORY for want of room. -/
theorem exec_drawFill_spec {s : State} (hinv : s.Inv) (halloc : s.fb.alloc = true) (v m : Bool) :
    ∃ pts c, exec (.drawFill v m) s = .next (((plotAll v pts s).setFstk Stack.none).finish c) ∧
      (∀ p ∈ pts, m ≠ v ∧ Reaches s m (s.s16 0, s.s16 1) p) ∧
      (c = .outOfBounds ∧ pixelGet s (s.s16 0) (s.s16 1) = none ∨
        c = .ok ∧ (m ≠ v → ∀ p, Reaches s m (s.s16 0, s.s16 1) p → p ∈ pts) ∨
        c = .outOfMemory ∧ (s.params.stackMaxEntries < max 1 s.params.fillStackInitCapacity ∨
          s.params.stackMaxEntries < 4 * (2 * (s.fb.columns * s.fb.height) + 1))) := by
  obtain ⟨-, ⟨-, hfb⟩, -, hfstk, -⟩ := hinv
  obtain ⟨-, hcolumns, -, hheight, -⟩ := hfb halloc
  have hidle (c : Status) : s.finish c = ((plotAll v [] s).setFstk Stack.none).finish c := by
    rw [plotAll, setFstk_eq_self hfstk]
  rw [exec_drawFill_of_alloc halloc]
  by_cases hget : pixelGet s (s.s16 0) (s.s16 1) = none
  · exact ⟨[], .outOfBounds, by rw [fill_of_none hget, hidle], by simp, .inl ⟨rfl, hget⟩⟩
  by_cases hne : m = v
  · subst hne
    exact ⟨[], .ok, by rw [fill_of_same hget, hidle], by simp, .inr (.inl ⟨rfl, fun h => absurd rfl h⟩)⟩
  by_cases hfits : max 1 s.params.fillStackInitCapacity ≤ s.params.stackMaxEntries
  · obtain ⟨S, hS, hfill⟩ := fill_of_stack hget hne hfits
    obtain rfl : m = !v := Bool.eq_not.2 hne
    obtain ⟨pts, T, hstate, hpts, hcode⟩ := fillWalk_spec v (inBounds_of_pixelGet_ne_none hget) ⟨hcolumns, hheight⟩ hS
    refine ⟨pts, _, by rw [hfill, hstate]; rfl, fun p hp => ⟨hne, hpts p hp⟩, .inr ?_⟩
    rcases hcode with ⟨hok, hall⟩ | ⟨hcode, hroom⟩
    · exact .inl ⟨hok, fun _ => hall⟩
    · exact .inr ⟨hcode, .inr hroom⟩
  · have hlarge := Nat.not_le.1 hfits
    exact ⟨[], .outOfMemory, by rw [fill_of_no_stack hget hne hlarge, hidle], by simp,
      .inr (.inr ⟨rfl, .inl hlarge⟩)⟩

/-! ## The statements -/

/-- Settles O48: each is a test DRAW_FILL makes before its walk. -/
theorem fillEndsBeforeItsWalk : Obligations.FillEndsBeforeItsWalk := by
  unfold Obligations.FillEndsBeforeItsWalk
  refine fun s v m => ⟨exec_without_framebuffer rfl, fun halloc hget => ?_, fun halloc hget hsame => ?_,
    fun halloc hget hne hlarge => ?_⟩ <;> rw [exec_drawFill_of_alloc halloc]
  · exact congrArg Host.Outcome.next (fill_of_none hget m v)
  · rw [hsame]
    exact congrArg Host.Outcome.next (fill_of_same hget v)
  · exact congrArg Host.Outcome.next (fill_of_no_stack hget hne hlarge)

/-- Settles O49: a fill plots pixels that held `m`, so the laws of `plotAll` say what has changed. -/
theorem fillChangesOnlyMatchingPixels : Obligations.FillChangesOnlyMatchingPixels := by
  unfold Obligations.FillChangesOnlyMatchingPixels
  intro s v m hinv halloc
  obtain ⟨pts, c, hexec, hpts, hcode⟩ := exec_drawFill_spec hinv halloc v m
  have hflip {x y : Int} (hp : (x, y) ∈ pts) :
      pixelGet s x y = some m ∧ pixelGet (plotAll v pts s) x y = some v ∧ m ≠ v := by
    obtain ⟨hne, hreaches⟩ := hpts _ hp
    have hget := hreaches.pixelGet_eq
    exact ⟨hget, pixelGet_plotAll_of_mem hp (inBounds_of_pixelGet_eq_some hget), hne⟩
  have hcount : (plotAll v pts s).fb.count = (plotAll v pts s).dirtyTotal := by
    obtain ⟨-, ⟨-, hfb⟩, -⟩ := exec_inv hinv hexec
    obtain ⟨-, -, -, -, -, -, -, hcount⟩ := hfb (by rw [finish_fb, setFstk_fb, plotAll_fb_geometry]; exact halloc)
    exact hcount
  refine ⟨_, hexec, rfl, rfl, ?_, fun j k hbit => ?_, fun j => ?_, plotAll_fb_geometry v pts s, hcount, ?_⟩
  · rcases hcode with ⟨rfl, -⟩ | ⟨rfl, -⟩ | ⟨rfl, -⟩ <;> simp
  · obtain ⟨x, y, ⟨hp, -⟩, hj, hk⟩ := plotAll_bit_changed hbit
    obtain ⟨hget, hget', hne⟩ := hflip hp
    exact ⟨x, y, hget, hget', hne, hj, hk⟩
  · refine (plotAll_isDirty (v := v) (pts := pts)).trans (or_congr_right ?_)
    constructor
    · rintro ⟨x, y, ⟨hp, -⟩, hj⟩
      obtain ⟨hget, hget', hne⟩ := hflip hp
      exact ⟨x, y, fun h => hne (Option.some.inj (hget.symm.trans (h.trans hget'))), hj⟩
    · rintro ⟨x, y, hchanged, hj⟩
      have hp : (x, y) ∈ pts := by
        by_contra hp
        exact hchanged (pixelGet_plotAll_of_not_mem hp).symm
      obtain ⟨hget, -, hne⟩ := hflip hp
      exact ⟨x, y, ⟨hp, by rw [hget, Bool.eq_not.2 hne]⟩, hj⟩
  · obtain ⟨⟨_, _, _, _, hframe⟩, -⟩ := pixelWork_plotAll v pts s
    rw [hframe]
    exact ⟨rfl, rfl, rfl, rfl, ⟨rfl, rfl, rfl, rfl, rfl, rfl⟩, ⟨rfl, rfl, rfl⟩, rfl, rfl, rfl⟩

/-- Settles O50: the pixels plotted are of the component, and all of it when the fill finishes OK. -/
theorem fillRepaintsTheConnectedComponent : Obligations.FillRepaintsTheConnectedComponent := by
  unfold Obligations.FillRepaintsTheConnectedComponent
  intro s t v m hinv halloc hne hexec hok x y
  obtain ⟨pts, c, hexec', hpts, hcode⟩ := exec_drawFill_spec hinv halloc v m
  obtain rfl := Host.Outcome.next.inj (hexec.symm.trans hexec')
  obtain rfl : c = .ok := hok
  have hall : ∀ p, Reaches s m (s.s16 0, s.s16 1) p → p ∈ pts := by simpa [hne] using hcode
  refine ⟨fun hreaches => ?_, fun hnot => ?_⟩
  · exact pixelGet_plotAll_of_mem (hall _ hreaches) (inBounds_of_pixelGet_eq_some hreaches.pixelGet_eq)
  · exact pixelGet_plotAll_of_not_mem fun hp => hnot (hpts _ hp).2

/-- Settles O51: the limit is above what OUT_OF_MEMORY takes; the seed is plotted if it matched, and nothing is if not. -/
theorem fillWithRoomFinishesOk : Obligations.FillWithRoomFinishesOk := by
  unfold Obligations.FillWithRoomFinishesOk
  intro s v m hinv halloc hget hinit hroom
  have ⟨_, _, _, hfstk, _⟩ := hinv
  obtain ⟨pts, c, hexec, hpts, hcode⟩ := exec_drawFill_spec hinv halloc v m
  obtain ⟨rfl, hall⟩ : c = .ok ∧ (m ≠ v → ∀ p, Reaches s m (s.s16 0, s.s16 1) p → p ∈ pts) := by
    rcases hcode with ⟨-, hnone⟩ | hok | ⟨-, hfull⟩
    · exact absurd hnone hget
    · exact hok
    · omega
  refine ⟨_, hexec, rfl, rfl, fun hseed => ?_, fun hseed => ?_⟩
  · by_cases hmem : (s.s16 0, s.s16 1) ∈ pts
    · exact pixelGet_plotAll_of_mem hmem (inBounds_of_pixelGet_eq_some hseed)
    · have hsame : m = v := by
        by_contra hne
        exact hmem (hall hne _ (.seed hseed))
      exact (pixelGet_plotAll_of_not_mem hmem).trans (hsame ▸ hseed)
  · obtain rfl : pts = [] := List.eq_nil_iff_forall_not_mem.2 fun p hp => by
      have hmatch := (hpts p hp).2.pixelGet_seed
      simp [hseed] at hmatch
    rw [plotAll, setFstk_eq_self hfstk]
    rfl

end Sys2Proof.Machine
end

section
/-! SUPPORT. The statements about the host's actions while a command runs, and about the steps that are refused
(20_memory.md R60, 60_exceptions.md R265, R274, 70_reset_and_hazards.md R290). -/

namespace Sys2Proof.Machine

open Sys2Proof

/-! ## Reads while a command runs -/

/-- The host's turn at a read of an aligned word. -/
theorem step_read {s : State} {off : Fin 0x30000} {early : Bool} {rest : List HostEvent} (haligned : off.val % 4 = 0)
    (hpending : s.pending = ⟨.read off 4, early⟩ :: rest) (hturn : s.busy = false ∨ early = true) :
    step s = .next (({ s with pending := rest } : State).hostRead off) := by
  rw [step_of_pending hpending hturn]
  simp only [hostStep, wordAligned_of_mod haligned, if_true]

/-- STATUS can be read at all times (60_exceptions.md R274). -/
theorem hostRead_status (s : State) :
    s.hostRead (regOffset .status) = s.recordRead (regOffset .status) (s.readWord (regOffset .status)) :=
  if_neg (by simp)

/-- A read of anything else while BUSY = 1 returns a free value (60_exceptions.md R274). -/
theorem hostRead_busy {s : State} {off : Fin 0x30000} (hbusy : s.busy = true) (hoff : off ≠ regOffset .status) :
    s.hostRead off = (s.recordRead off (Config.freeRead s.draws)).drew :=
  if_pos (by simp [hbusy, hoff])

/-- Settles O7: the write is ignored, STATUS is read as it stands, and any other read records the free value. -/
theorem hostActionsWhileACommandRuns : Obligations.HostActionsWhileACommandRuns := by
  unfold Obligations.HostActionsWhileACommandRuns
  refine ⟨fun s off v rest hbusy haligned hpending => ?_, fun s rest hbusy hpending => ?_,
    fun s off rest hbusy haligned hoff hpending => ?_⟩
  · exact step_write_busy hbusy (wordAligned_of_mod haligned) hpending
  · refine ⟨_, (readWord_status_busy s).trans hbusy, readWord_status_code s, ?_⟩
    rw [step_read (by decide) hpending (.inr rfl), hostRead_status]
    rfl
  · refine ⟨Config.freeRead s.draws, ?_⟩
    rw [step_read haligned hpending (.inr rfl), hostRead_busy (s := { s with pending := rest }) hbusy hoff]
    rfl

/-! ## Refused steps -/

/-- The actions without a meaning: an access that is not an aligned 32-bit access (20_memory.md R60), and a reset while
BUSY = 1 (70_reset_and_hazards.md R290). -/
def Undefined (busy : Bool) (a : HostAction) : Prop :=
  (∃ off width, a = .read off width ∧ (width ≠ 4 ∨ off.val % 4 ≠ 0)) ∨
  (∃ off width v, a = .write off width v ∧ (width ≠ 4 ∨ off.val % 4 ≠ 0)) ∨
  (a = .reset ∧ busy = true)

theorem wordAligned_iff {off : Fin 0x30000} {width : Nat} :
    wordAligned off width = true ↔ ¬ (width ≠ 4 ∨ off.val % 4 ≠ 0) := by
  simp [wordAligned]

/-- An action of the host is answered unless it has no meaning. -/
theorem hostStep_answers_iff (e : HostEvent) (s : State) :
    (∃ t, hostStep e s = .next t) ↔ ¬ Undefined s.busy e.action := by
  obtain ⟨a, early⟩ := e
  cases a with
  | read off width | write off width _ =>
    by_cases hwrong : width ≠ 4 ∨ off.val % 4 ≠ 0
    · simp [hostStep, Undefined, wordAligned_eq_false hwrong, hwrong]
    · simp [hostStep, Undefined, wordAligned_iff.2 hwrong, hwrong]
  | wait k => simp [hostStep, Undefined]
  | reset => cases hbusy : s.busy <;> simp [hostStep, Undefined, hbusy]

/-- The engine's step always answers a next state (60_exceptions.md R265). -/
theorem runCommand_answers (s : State) : ∃ t, runCommand s = .next t := by
  rcases runCommand_cases s with ⟨i, -, hrun⟩ | ⟨_, -, hrun⟩
  · obtain ⟨t, c, hexec, -⟩ := exec_finishes i s
    exact ⟨_, hrun.trans hexec⟩
  · exact ⟨_, hrun⟩

/-- A step is answered unless it is the host's turn and its action has no meaning. -/
theorem step_answers_iff (s : State) :
    (∃ t, step s = .next t) ↔
      ¬ ∃ e rest, s.pending = e :: rest ∧ (s.busy = false ∨ e.early = true) ∧ Undefined s.busy e.action := by
  have hnone (hturn : s.hostTurn = none) :
      ¬ ∃ e rest, s.pending = e :: rest ∧ (s.busy = false ∨ e.early = true) ∧ Undefined s.busy e.action := by
    rintro ⟨e, rest, hpending, hgo, -⟩
    cases hturn.symm.trans (hostTurn_eq_some.2 ⟨rest, hpending, hgo, rfl⟩)
  rcases step_cases s with ⟨e, t, hturn, heq⟩ | ⟨hturn, -, heq⟩ | ⟨hturn, -, heq⟩ <;> rw [heq]
  · obtain ⟨rest, hpending, hgo, rfl⟩ := hostTurn_eq_some.1 hturn
    refine (hostStep_answers_iff e _).trans (not_congr ⟨fun h => ⟨e, rest, hpending, hgo, h⟩, ?_⟩)
    rintro ⟨e', rest', hpending', -, h⟩
    obtain ⟨rfl, -⟩ := List.cons.inj (hpending.symm.trans hpending')
    exact h
  · exact iff_of_true (runCommand_answers s) (hnone hturn)
  · exact iff_of_true ⟨s, rfl⟩ (hnone hturn)

/-- Settles O19: the engine's step and the idle one always answer, and no fault exists (60_exceptions.md R265). -/
theorem stepsAreRefusedOnlyForTheHost : Obligations.StepsAreRefusedOnlyForTheHost := by
  unfold Obligations.StepsAreRefusedOnlyForTheHost
  exact fun s => ⟨step_answers_iff s, fun f => nomatch f⟩

end Sys2Proof.Machine
end

section
/-! SUPPORT. The outer loop of a fill does not run out of iterations (43_fill_stack.md R231, 60_exceptions.md R265). -/

namespace Sys2Proof.Machine

open Sys2Proof

section Loop

variable {s₀ s : State} {n : Bool} {seed : Pt} {B : Nat} {seeds pts : List Pt}

/-- One turn of the outer loop ends the loop, or leads to a state of the walk with a smaller budget of seeds. -/
theorem fillLoop_turn (h : FillProgress s₀ n seed B [] seeds pts) (hs : FillState s₀ n seeds pts s)
    (hdims : s₀.fb.columns ≤ maxDim ∧ s₀.fb.height ≤ maxDim) :
    (∃ r, ∀ k, fillLoop (!n) n (k + 1) s = r) ∨
    ∃ B' < B, ∃ s' seeds' pts', FillProgress s₀ n seed B' [] seeds' pts' ∧ FillState s₀ n seeds' pts' s' ∧
      ∀ k, fillLoop (!n) n (k + 1) s = fillLoop (!n) n k s' := by
  cases seeds with
  | nil =>
    obtain ⟨S, hS, hentries⟩ := hs
    have hempty : stackPop s.fstk = none := stackPop_eq_none.2 (by rw [hS]; exact hentries)
    exact .inl ⟨(s, .ok), fun k => by rw [fillLoop, hempty]⟩
  | cons p seeds =>
    obtain ⟨B, rfl⟩ : ∃ B', B = B' + 1 := Nat.exists_eq_succ_of_ne_zero (by
      have hbudget := h.budget
      rw [List.length_cons] at hbudget
      omega)
    obtain ⟨S₁, S₂, hpopY, hpopX, hs'⟩ := hs.pop
    obtain ⟨hx, hy⟩ := Prod.mk.inj (h.seed_roundtrip hdims)
    rcases fillSeed_spec h.pop hs' with ⟨hok, seeds', pts', hs'', h'⟩ | ⟨hfull, -⟩
    · exact .inr ⟨B, Nat.lt_succ_self B, _, seeds', pts', h', hs'', fun k => by
        simp only [fillLoop, hpopY, hpopX, hx, hy, hok]⟩
    · exact .inl ⟨_, fun k => by simp only [fillLoop, hpopY, hpopX, hx, hy, hfull]; rfl⟩

/-- Given more iterations than the budget of seeds, the outer loop does the same with any number of iterations more. -/
theorem fillLoop_add {k : Nat} (h : FillProgress s₀ n seed B [] seeds pts) (hs : FillState s₀ n seeds pts s)
    (hdims : s₀.fb.columns ≤ maxDim ∧ s₀.fb.height ≤ maxDim) (hk : B < k) (j : Nat) :
    fillLoop (!n) n (k + j) s = fillLoop (!n) n k s := by
  induction k generalizing B seeds pts s with
  | zero => omega
  | succ k ih =>
    rw [Nat.add_right_comm]
    rcases fillLoop_turn h hs hdims with ⟨r, hend⟩ | ⟨B', hB', s', seeds', pts', h', hs', hgo⟩
    · rw [hend, hend]
    · rw [hgo, hgo, ih h' hs' (by omega)]

end Loop

/-- Settles O52: the seed pushed and two for each pixel are the budget, which `fillSteps` exceeds. -/
theorem fillLoopEndsByItself : Obligations.FillLoopEndsByItself := by
  unfold Obligations.FillLoopEndsByItself
  intro s r x y v m S k hinv halloc hne hS hget hpush
  obtain ⟨-, ⟨-, hfb⟩, -⟩ := hinv
  obtain ⟨-, hcolumns, -, hheight, -⟩ := hfb halloc
  obtain rfl : m = !v := Bool.eq_not.2 hne
  have hempty : S.entries = [] := by
    rw [stackAlloc_eq] at hS
    split at hS <;> cases hS
    rfl
  have hstate : FillState s v [(x, y)] [] r := by
    rcases pushSeed_cases x y (s.setFstk S) with ⟨T, hpush', hT⟩ | ⟨T, hpush', -⟩ <;> cases hpush.symm.trans hpush'
    exact ⟨T, rfl, by rw [hT, setFstk_fstk, hempty]; rfl⟩
  exact fillLoop_add (fillProgress_start v (inBounds_of_pixelGet_ne_none hget)) hstate ⟨hcolumns, hheight⟩
    (Nat.lt_succ_self _) k

end Sys2Proof.Machine
end

section
/-! SUPPORT. The status each command ends with (60_exceptions.md R261), and what no command writes
(10_state.md R21-R25). -/

namespace Sys2Proof.Machine

open Sys2Proof

/-! ## The table of R261 -/

/-- A display command may surface whatever a bus write returned (60_exceptions.md R264). -/
theorem mayWrite_busCode {i : Instr} (hi : isDisplay i = true) (st : BusStatus) : mayWrite i (busCode st) = true := by
  cases i with
  | dispInit | dispOn _ | dispUpdate | dispUpdateAll | dispUpdateDiff | dispSetColRange | dispSetPageRange =>
    cases st <;> rfl
  | _ => cases hi

/-- Every command but DISP_INIT may finish INVALID_ARGUMENT. -/
theorem mayWrite_invalidArgument {i : Instr} (hi : i ≠ .dispInit) : mayWrite i .invalidArgument = true := by
  cases i with
  | dispInit => exact absurd rfl hi
  | _ => rfl

/-- The command `i` run in `s` ends with a code of its row. -/
def EndsInItsRow (i : Instr) (s : State) : Prop :=
  ∃ (t : State) (c : Status), exec i s = .next (t.finish c) ∧ mayWrite i c = true

/-- A command that fails the check it begins with finishes INVALID_ARGUMENT, so only its other cases
are to be looked at. -/
theorem endsInItsRow_of_check {i : Instr} {s : State} {b : Bool} (hi : i ≠ .dispInit)
    (hfails : b = false → exec i s = .next (s.finish .invalidArgument)) (hpasses : b = true → EndsInItsRow i s) :
    EndsInItsRow i s := by
  cases b with
  | false => exact ⟨s, _, hfails rfl, mayWrite_invalidArgument hi⟩
  | true => exact hpasses rfl

/-! ## The framebuffer commands -/

theorem endsInItsRow_of_framebuffer {i : Instr} {s : State} (hi : needsFramebuffer i = true)
    (h : s.fb.alloc = true → EndsInItsRow i s) : EndsInItsRow i s :=
  endsInItsRow_of_check (by rintro rfl; cases hi) (exec_without_framebuffer hi) h

theorem fbCreate_endsInItsRow (s : State) : EndsInItsRow .fbCreate s := by
  cases halloc : s.fb.alloc with
  | true => exact ⟨_, _, execFbCreate_of_alloc halloc, rfl⟩
  | false =>
    by_cases hsize : 1 ≤ s.u16 0 ∧ s.u16 0 ≤ maxDim ∧ 1 ≤ s.u16 1 ∧ s.u16 1 ≤ maxDim
    · rcases Nat.lt_or_ge s.params.fbMaxTiles (s.u16 0 * ((s.u16 1 + 7) / 8)) with hlarge | hfits
      · exact ⟨_, _, execFbCreate_of_many_tiles halloc hsize hlarge, rfl⟩
      · exact ⟨_, _, execFbCreate_of_fits halloc hsize hfits, rfl⟩
    · exact ⟨_, _, execFbCreate_of_bad_size halloc hsize, rfl⟩

theorem fbSetPixel_endsInItsRow (v : Bool) (s : State) : EndsInItsRow (.fbSetPixel v) s :=
  endsInItsRow_of_framebuffer rfl fun halloc => by
    by_cases hb : s.inBounds (s.s16 0) (s.s16 1) = true
    · exact ⟨_, _, execFbSetPixel_of_inBounds halloc hb v, rfl⟩
    · exact ⟨_, _, execFbSetPixel_of_not_inBounds halloc hb v, rfl⟩

theorem fbGetPixel_endsInItsRow (s : State) : EndsInItsRow .fbGetPixel s :=
  endsInItsRow_of_framebuffer rfl fun halloc => by
    cases hget : pixelGet s (s.s16 0) (s.s16 1) with
    | some b => exact ⟨_, _, execFbGetPixel_of_some halloc hget, rfl⟩
    | none => exact ⟨_, _, execFbGetPixel_of_none halloc hget, rfl⟩

theorem raster_endsInItsRow {i : Instr} {s : State} {pts : List Pt} {v : Bool} (hi : needsFramebuffer i = true)
    (hpts : rasterPoints s i = some (pts, v)) (hok : mayWrite i .ok = true) : EndsInItsRow i s :=
  endsInItsRow_of_framebuffer hi fun halloc => ⟨_, _, exec_raster hpts halloc, hok⟩

/-! ## The fill -/

/-- The procedures of a fill return OK, or OUT_OF_MEMORY for want of room on FSTK (43_fill_stack.md R231). -/
def OkOrNoRoom (c : Status) : Prop := c = .ok ∨ c = .outOfMemory

theorem pushSeed_status (x y : Int) (s : State) : OkOrNoRoom (pushSeed x y s).2 := by
  rcases pushSeed_cases x y s with ⟨S, h, -⟩ | ⟨S, h, -⟩ <;> rw [h]
  · exact .inl rfl
  · exact .inr rfl

theorem fillSide_status (m : Bool) (x yy : Int) (latch : Bool) (s : State) :
    OkOrNoRoom (fillSide m x yy latch s).1.2 := by
  rcases fillSide_cases m x yy latch s with ⟨-, h⟩ | ⟨-, h⟩ | ⟨-, -, h⟩ | ⟨-, -, h⟩ <;> rw [h]
  case inr.inr.inr => exact pushSeed_status x yy s
  all_goals exact .inl rfl

theorem scanRight_status (m n : Bool) (y : Int) (k : Nat) (x : Int) (above below : Bool) (s : State) :
    OkOrNoRoom (scanRight m n y k x above below s).2 := by
  induction k generalizing x above below s with
  | zero => exact .inl rfl
  | succ k ih =>
    unfold scanRight
    dsimp only
    split
    · split
      · split
        · exact ih ..
        · exact fillSide_status ..
      · exact fillSide_status ..
    · exact .inl rfl

theorem fillSeed_status (m n : Bool) (x y : Int) (s : State) : OkOrNoRoom (fillSeed m n x y s).2 := by
  unfold fillSeed
  split
  · exact scanRight_status ..
  · exact .inl rfl

theorem fillLoop_status (m n : Bool) (k : Nat) (s : State) : OkOrNoRoom (fillLoop m n k s).2 := by
  induction k generalizing s with
  | zero => exact .inl rfl
  | succ k ih =>
    unfold fillLoop
    split
    · exact .inl rfl
    · split
      · exact .inl rfl
      · dsimp only
        split
        · exact ih _
        · exact fillSeed_status ..

theorem fillWalk_status (x y : Int) (m n : Bool) (s : State) : OkOrNoRoom (fillWalk x y m n s).2 := by
  unfold fillWalk
  dsimp only
  split
  · exact fillLoop_status ..
  · exact pushSeed_status ..

theorem drawFill_endsInItsRow (v m : Bool) (s : State) : EndsInItsRow (.drawFill v m) s :=
  endsInItsRow_of_framebuffer rfl fun halloc => by
    have hexec := exec_drawFill_of_alloc halloc v m
    by_cases hget : pixelGet s (s.s16 0) (s.s16 1) = none
    · exact ⟨_, _, by rw [hexec, fill_of_none hget], rfl⟩
    by_cases hne : m = v
    · subst hne
      exact ⟨_, _, by rw [hexec, fill_of_same hget], rfl⟩
    rcases Nat.lt_or_ge s.params.stackMaxEntries (max 1 s.params.fillStackInitCapacity) with hlarge | hfits
    · exact ⟨_, _, by rw [hexec, fill_of_no_stack hget hne hlarge], rfl⟩
    · obtain ⟨S, -, hfill⟩ := fill_of_stack hget hne hfits
      refine ⟨_, _, by rw [hexec, hfill], ?_⟩
      rcases fillWalk_status (s.s16 0) (s.s16 1) m v (s.setFstk S) with h | h <;> rw [h] <;> rfl

/-! ## The display commands -/

theorem endsInItsRow_of_display {i : Instr} {s : State} (hi : needsDisplay i = true)
    (h : s.disp.valid = true → EndsInItsRow i s) : EndsInItsRow i s :=
  endsInItsRow_of_check (by rintro rfl; cases hi) (exec_without_display hi) h

theorem endsInItsRow_of_ready {i : Instr} {s : State} (hi : isUpdate i = true)
    (h : s.updateReady = true → EndsInItsRow i s) : EndsInItsRow i s :=
  endsInItsRow_of_check (by rintro rfl; cases hi) (fun hno => exec_update_not_ready hi (by simp [hno])) h

/-- A display command that ends with what a bus procedure returned. -/
theorem endsInItsRow_of_finishBus {i : Instr} {s u : State} {p : BusProc} (hi : isDisplay i = true)
    (h : exec i s = .next (finishBus p u)) : EndsInItsRow i s :=
  ⟨_, _, h, mayWrite_busCode hi _⟩

theorem dispOn_endsInItsRow (v : Bool) (s : State) : EndsInItsRow (.dispOn v) s :=
  endsInItsRow_of_display rfl fun hvalid => endsInItsRow_of_finishBus rfl (if_pos hvalid)

theorem dispUpdateAll_endsInItsRow (s : State) : EndsInItsRow .dispUpdateAll s :=
  endsInItsRow_of_ready rfl fun hready => endsInItsRow_of_finishBus rfl (if_pos hready)

theorem dispUpdateDiff_endsInItsRow (s : State) : EndsInItsRow .dispUpdateDiff s :=
  endsInItsRow_of_ready rfl fun hready => by
    have hexec : exec .dispUpdateDiff s = .next (updateDiff s) := if_pos hready
    by_cases hzero : s.fb.count = 0
    · exact ⟨_, _, by rw [hexec, updateDiff, if_pos hzero], rfl⟩
    · exact endsInItsRow_of_finishBus rfl (by rw [hexec, updateDiff, if_neg hzero])

/-- DISP_UPDATE has nothing to do, or ends as one of the other two updates, whose rows are the same. -/
theorem dispUpdate_endsInItsRow (s : State) : EndsInItsRow .dispUpdate s :=
  endsInItsRow_of_ready rfl fun hready => by
    have hexec := execDispUpdate_eq hready
    by_cases hzero : s.fb.count = 0
    · exact ⟨_, _, hexec.trans (if_pos hzero), rfl⟩
    rw [if_neg hzero] at hexec
    by_cases hthresh : s.dispThresh < s.fb.count
    · obtain ⟨t, c, hall, hrow⟩ := dispUpdateAll_endsInItsRow s
      exact ⟨t, c, hexec.trans ((if_pos hthresh).trans hall), hrow⟩
    · obtain ⟨t, c, hdiff, hrow⟩ := dispUpdateDiff_endsInItsRow s
      exact ⟨t, c, hexec.trans ((if_neg hthresh).trans hdiff), hrow⟩

theorem range_endsInItsRow {i : Instr} {s : State} {send : Byte → Byte → BusProc} (hi : needsDisplay i = true)
    (hexec : exec i s = .next (rangeCommand send s)) : EndsInItsRow i s :=
  endsInItsRow_of_display hi fun hvalid => by
    by_cases hfits : s.u16 0 ≤ 0xFF ∧ s.u16 1 ≤ 0xFF
    · exact endsInItsRow_of_finishBus (isDisplay_of_needsDisplay hi)
        (by rw [hexec, rangeCommand, if_pos hvalid, if_pos hfits])
    · exact ⟨_, _, by rw [hexec, rangeCommand_of_large send hfits], mayWrite_invalidArgument (by rintro rfl; cases hi)⟩

/-! ## The host stack commands -/

theorem endsInItsRow_of_stack {i : Instr} {s : State} (hi : i ∈ [.stkPush, .stkPop, .stkDealloc])
    (h : s.stk.alloc = true → EndsInItsRow i s) : EndsInItsRow i s :=
  endsInItsRow_of_check (by rintro rfl; simp at hi) (exec_without_stack hi) h

/-- A command that ends with what a stack procedure gave. -/
theorem endsInItsRow_of_finishStk {i : Instr} {s : State} {S : Option Stack} (hi : i = .stkAlloc ∨ i = .stkPush)
    (h : exec i s = .next (finishStk S s)) : EndsInItsRow i s := by
  cases S with
  | some S => exact ⟨_, _, h, by rcases hi with rfl | rfl <;> rfl⟩
  | none => exact ⟨_, _, h, by rcases hi with rfl | rfl <;> rfl⟩

theorem stkAlloc_endsInItsRow (s : State) : EndsInItsRow .stkAlloc s := by
  cases halloc : s.stk.alloc with
  | true => exact ⟨_, _, execStkAlloc_of_alloc halloc, rfl⟩
  | false => exact endsInItsRow_of_finishStk (.inl rfl) (execStkAlloc_of_free halloc)

theorem stkPush_endsInItsRow (s : State) : EndsInItsRow .stkPush s :=
  endsInItsRow_of_stack (by simp) fun halloc => endsInItsRow_of_finishStk (.inr rfl) (execStkPush_of_alloc halloc)

theorem stkPop_endsInItsRow (s : State) : EndsInItsRow .stkPop s :=
  endsInItsRow_of_stack (by simp) fun halloc => by
    cases hentries : s.stk.entries with
    | nil => exact ⟨_, _, execStkPop_of_nil halloc hentries, rfl⟩
    | cons v rest => exact ⟨_, _, execStkPop_of_cons halloc hentries, rfl⟩

/-! ## Every command -/

theorem exec_endsInItsRow (i : Instr) (s : State) : EndsInItsRow i s := by
  cases i with
  | fbCreate => exact fbCreate_endsInItsRow s
  | fbClear => exact endsInItsRow_of_framebuffer rfl fun halloc => ⟨_, _, execFbClear_of_alloc halloc, rfl⟩
  | fbSetPixel v => exact fbSetPixel_endsInItsRow v s
  | fbGetPixel => exact fbGetPixel_endsInItsRow s
  | fbDestroy => exact endsInItsRow_of_framebuffer rfl fun halloc => ⟨_, _, execFbDestroy_of_alloc halloc, rfl⟩
  | dispInit => exact endsInItsRow_of_finishBus rfl rfl
  | dispOn v => exact dispOn_endsInItsRow v s
  | dispUpdate => exact dispUpdate_endsInItsRow s
  | dispUpdateAll => exact dispUpdateAll_endsInItsRow s
  | dispUpdateDiff => exact dispUpdateDiff_endsInItsRow s
  | dispSetColRange | dispSetPageRange => exact range_endsInItsRow rfl rfl
  | drawLine _ | drawRect _ | drawCircle _ | drawEllipseRect _ => exact raster_endsInItsRow rfl rfl rfl
  | drawFill v m => exact drawFill_endsInItsRow v m s
  | stkAlloc => exact stkAlloc_endsInItsRow s
  | stkPush => exact stkPush_endsInItsRow s
  | stkPop => exact stkPop_endsInItsRow s
  | stkDealloc => exact endsInItsRow_of_stack (by simp) fun halloc => ⟨_, _, execStkDealloc_of_alloc halloc, rfl⟩

/-- No work of a command writes an operand register, a parameter or what the host has to do (10_state.md R21-R25). -/
theorem CommandWork.keepsOperands_outside {s t : State} {i : Instr} {c : Status} (h : CommandWork s i t c) :
    keepsOperands s t ∧ keepsOutside s t := by
  cases h with
  | pixels _ ht _ | fill ht =>
    obtain ⟨⟨_, _, _, _, rfl⟩, -⟩ := ht
    exact ⟨⟨rfl, rfl, rfl, rfl, rfl, rfl⟩, rfl, rfl, rfl⟩
  | dispInit ht =>
    obtain ⟨_, _, rfl, -⟩ := ht
    exact ⟨⟨rfl, rfl, rfl, rfl, rfl, rfl⟩, rfl, rfl, rfl⟩
  | display _ ht =>
    obtain ⟨_, _, ⟨_, _, rfl, -⟩, -⟩ := ht
    exact ⟨⟨rfl, rfl, rfl, rfl, rfl, rfl⟩, rfl, rfl, rfl⟩
  | idle | fbCreate | fbClear | fbDestroy | fbGetPixel | stack | stkPop =>
    exact ⟨⟨rfl, rfl, rfl, rfl, rfl, rfl⟩, rfl, rfl, rfl⟩

/-- Settles O18: the command ends by `finish` with a code of its row, and its work has written no operand. -/
theorem everyCommandFinishesWithAStatusOfItsRow : Obligations.EveryCommandFinishesWithAStatusOfItsRow := by
  unfold Obligations.EveryCommandFinishesWithAStatusOfItsRow
  intro i s
  obtain ⟨t, c, hexec, hrow⟩ := exec_endsInItsRow i s
  obtain ⟨u, d, heq, hwork⟩ := commandWork_of_exec hexec
  refine ⟨_, hexec, rfl, hrow, ?_⟩
  rw [heq]
  exact hwork.keepsOperands_outside

end Sys2Proof.Machine
end

section
/-! SUPPORT. What the host reads after a reset, and the host's turn at the reset input (20_memory.md R62,
70_reset_and_hazards.md R290-R292). -/

namespace Sys2Proof.Machine

open Sys2Proof

/-! ## The host space after reset -/

/-- Where no framebuffer exists and every register reads 0, the whole host space reads 0 (20_memory.md R62). -/
theorem readWord_eq_zero {s : State} (hregs : ∀ r, s.readReg r = 0) (hfree : s.fb.alloc = false) (off : Fin 0x30000) :
    s.readWord off = 0 := by
  unfold State.readWord
  split
  · exact hregs _
  · rw [inWindow_of_free hfree]
    rfl
  · rw [inWindow_of_free hfree]
    rfl
  · rfl

theorem readReg_reset (r : Reg) : State.reset.readReg r = 0 := by
  cases r <;> decide

/-- Reset while BUSY = 0 leaves the registers and the records behind them as they are right after reset
(70_reset_and_hazards.md R290). -/
theorem readReg_applyReset (s : State) (r : Reg) : s.applyReset.readReg r = State.reset.readReg r := by
  cases r <;> rfl

theorem reset_arg (n : Fin 4) : State.reset.arg n = 0 := by
  fin_cases n <;> rfl

theorem applyReset_arg (s : State) (n : Fin 4) : s.applyReset.arg n = State.reset.arg n := by
  fin_cases n <;> rfl

/-- Settles O14: every register reads 0 and no framebuffer exists, the panel invariant holds at reset, and the OPEN
parameters are within their bounds. -/
theorem resetValues : Obligations.ResetValues := by
  unfold Obligations.ResetValues
  obtain ⟨-, -, hpanel⟩ := invariantsHoldAtReset
  exact ⟨readWord_eq_zero readReg_reset rfl, rfl, rfl, rfl, rfl, rfl, reset_arg, rfl, rfl, rfl, rfl, rfl, rfl,
    hpanel.1 rfl, rfl, rfl, Config.params_wf⟩

/-! ## The reset input -/

theorem readWord_applyReset (s : State) (off : Fin 0x30000) : s.applyReset.readWord off = 0 :=
  readWord_eq_zero (fun r => (readReg_applyReset s r).trans (readReg_reset r)) rfl off

/-- The host's turn at the reset input: the reset values while BUSY = 0, and a refusal while BUSY = 1
(70_reset_and_hazards.md R290). -/
theorem step_resetInput {s : State} {early : Bool} {rest : List HostEvent}
    (hpending : s.pending = ⟨.reset, early⟩ :: rest) (hturn : s.busy = false ∨ early = true) :
    step s = if s.busy then .refused .resetWhileBusy else .next ({ s with pending := rest } : State).applyReset :=
  step_of_pending hpending hturn

/-- Settles O15: while BUSY = 0 the step is `applyReset`, after which every register reads its reset value, and while
BUSY = 1 it is refused. -/
theorem resetInputGivesTheResetState : Obligations.ResetInputGivesTheResetState := by
  unfold Obligations.ResetInputGivesTheResetState
  refine ⟨fun s early rest hbusy hpending => ⟨({ s with pending := rest } : State).applyReset, ?_,
    readWord_applyReset _, rfl, rfl, rfl, rfl, rfl, fun n => (applyReset_arg _ n).trans (reset_arg n), rfl, rfl, rfl, rfl,
    rfl, rfl, rfl, rfl, rfl, rfl⟩, fun s rest hbusy hpending => ?_⟩
  · rw [step_resetInput hpending (.inl hbusy), hbusy]
    rfl
  · rw [step_resetInput hpending (.inr rfl), hbusy]
    rfl

end Sys2Proof.Machine
end
